-- ==== Sys2Proof/Word.lean ====
section
/-! DEFINITION. The word types of FSYNC16 (spec/00_scope.md R11, spec/30_encoding.md R80). -/

namespace Sys2Proof

/-- A byte: 8 bits (R11). -/
abbrev Byte := BitVec 8

/-- A word: 16 bits (R11). -/
abbrev Word := BitVec 16

/-- A double word: 32 bits (R11). -/
abbrev DWord := BitVec 32

/-- A word of the host transaction port: 64 bits (R80, R81). -/
abbrev PortWord := BitVec 64

end Sys2Proof
end

