-- ==== Sys2Proof/Config.lean ====
section
/-! DEFINITION. The elaboration parameters of one FSYNC16 instance (spec/00_scope.md R3, R6, R8) and
the values the spec leaves free (spec/93_implementation_defined.md I1, I8, I9). -/

namespace Sys2Proof

/-- The packet kind an instance handles, fixed when the block is built (R3). -/
inductive Kind where
  | cmd   -- uplink command packets
  | tlm   -- downlink telemetry packets
deriving DecidableEq, Repr

/-- What `SCHEMA` gives for a type byte (R8). -/
structure SchemaEntry where
  /-- fixed or maximum payload length in bytes -/
  len : Nat
  /-- variable length: `len` is then a maximum -/
  isVar : Bool
  /-- the notification tag -/
  tag : DWord
deriving DecidableEq, Repr

/-- The parameters of R6 that are data. `CK` is a function: it is `Config.ck` below.
DESIGN CHOICE (log 1): carried, constant, in `State`; safe. -/
structure Config where
  /-- `KIND` -/
  kind : Kind
  /-- `CMD_MAX_PAYLOAD`, the spec's M_c -/
  cmdMaxPayload : Nat
  /-- `SCHEMA`: a partial map from a type byte, as a list of its entries in rising order of type -/
  schema : List (Byte × SchemaEntry)
  /-- `TLM_MAX_PAYLOAD`, the spec's M_t -/
  tlmMaxPayload : Nat
  /-- `SOURCE_ID` -/
  sourceId : Byte
  /-- `SEQ_INIT` -/
  seqInit : Word
deriving DecidableEq, Repr

/-- The checksum function `CK` of R120: total and deterministic (R121), and nothing else is known of it
here (log 3). The statements that need R122 quantify over every function that has it. -/
opaque Config.ck : List Byte → Word

/-- The free value of byte `offset` of `BUF` after the `epoch`-th power-on reset
(spec/10_state.md R47, spec/70_reset_and_hazards.md R290: "one free input per byte"; log 4). DESIGN CHOICE
(log 16): it is named by reset and offset alone, not by instance, so two instances at the same `epoch` have
the same draw, where spec/20_memory.md R73 leaves each its own; unsafe. -/
opaque Config.bufDraw : (epoch offset : Nat) → Byte

/-- The free value of byte `offset` of `STAGE` after the `epoch`-th power-on reset (as `bufDraw`; DESIGN CHOICE, log 16; unsafe). -/
opaque Config.stageDraw : (epoch offset : Nat) → Byte

/-- The parameters of the configurations TC-CMD (`kind` = cmd) and TC-TLM (`kind` = tlm) of
spec/95_test_vectors.md section 1. DESIGN CHOICE (log 2): `State.reset` is the power-on state of this
configuration with `kind` = cmd; unsafe, and no statement about all states rests on it. -/
def Config.testVectors (kind : Kind) : Config where
  kind := kind
  cmdMaxPayload := 32
  schema :=
    [(0x10, { len := 4, isVar := false, tag := 0x1000 }),
     (0x11, { len := 8, isVar := true, tag := 0x1100 }),
     (0x12, { len := 0, isVar := false, tag := 0x1200 })]
  tlmMaxPayload := 8
  sourceId := 0x05
  seqInit := 0

end Sys2Proof
end

