-- ==== Sys2Proof/Machine/State.lean ====
section
/-! DEFINITION. The state of one FSYNC16 instance (spec/10_state.md R20), its host port, the reasons a
step can stop, and the state after power-on reset (R47). -/

namespace Sys2Proof.Machine

/-- Status codes (spec/30_encoding.md R82). Codes 13 to 15 are never returned and have no name
(spec/93_implementation_defined.md I18). -/
inductive Status where
  | ok | incomplete | noSync | lengthError | crcError | unknownType | bufferFull | endOfPacket
  | notCompleted | noPacket | held | badCommand | outOfRange
deriving DecidableEq, Repr

/-- The response to one request (spec/30_encoding.md R81): its fields STATUS, ACC and DATA. -/
structure Response where
  status : Status
  acc : Bool
  data : DWord
deriving DecidableEq, Repr

/-- What the host does to the block (spec/70_reset_and_hazards.md R303). -/
inductive HostEvent where
  /-- present a 64-bit request word (R80) -/
  | request (w : PortWord)
  /-- assert and release RST between two transactions (R291) -/
  | rst
deriving DecidableEq, Repr

/-- The bytes of a buffer that some operation has written since power-on reset, as (offset, byte) pairs
in strictly rising order of offset. An unlisted offset has no written value: what it reads as is the
free value that `State.readBuf` or `State.readStage` gives it (log 4). -/
abbrev Memory := List Host.Cell

/-- The state. The fields from `buf` to `txout` are the tuple of R20; `cfg` is the configuration
(R6, R45; log 1); the last three are the model's own (logs 5, 6, 7). -/
structure State where
  /-- the configuration of the instance; no step changes it (R45, R72) -/
  cfg : Config
  /-- BUF (R23) -/
  buf : Memory
  /-- STAGE (R24) -/
  stage : Memory
  /-- LEN (R25) -/
  len : BitVec 17
  /-- COMPLETED (R26) -/
  completed : Bool
  /-- HOLD (R28) -/
  hold : Bool
  /-- TXOPEN (R29) -/
  txopen : Bool
  /-- ALTERED (R30) -/
  altered : Bool
  /-- RIDX (R31) -/
  ridx : BitVec 16
  /-- LASTFEED (R32) -/
  lastfeed : Status
  /-- CTRL: bit 0 AUTO, bit 1 IE_DONE, bit 2 IE_ERR (R33) -/
  ctrl : BitVec 3
  /-- ERRCNT (R34) -/
  errcnt : BitVec 32
  /-- SEQ (R35) -/
  seq : BitVec 16
  /-- EV: bit 0 DONE, bit 1 ERR (R36) -/
  ev : BitVec 2
  /-- TAG (R37) -/
  tag : BitVec 32
  /-- TXOUT, the bytes emitted since power-on reset, oldest first (R9, R174) -/
  txout : List Byte
  /-- the number of power-on resets before this one: which draw of BUF and STAGE holds -/
  epoch : Nat
  /-- what the host is going to present, in order -/
  pending : List HostEvent
  /-- the responses returned since power-on reset, oldest first (R304) -/
  responses : List Response
deriving DecidableEq, Repr

/-- FSYNC16 has no fault: "No request, and no byte, makes the block fault", and none makes it stuck
(spec/60_exceptions.md R276). The type is empty, so no step can answer one; safe. -/
inductive Fault
deriving DecidableEq, Repr

/-- Why a step is refused. -/
inductive Refusal where
  /-- raised by an arm of `exec` whose instruction has no meaning; no arm raises it; safe -/
  | notModelled (mnemonic : String)
  /-- raised by `step` when the configuration breaks a constraint of spec/00_scope.md R6 (R276,
  spec/93_implementation_defined.md I24): such an instance does not exist; or when its SCHEMA list is not
  rising, DESIGN CHOICE (log 8): the map has another list, which is accepted; safe -/
  | invalidConfig
deriving DecidableEq, Repr

/-- The state after the `epoch`-th power-on reset of an instance (R47, R290): no byte of BUF or STAGE
is written, so each is its free value. Nothing is pending. DESIGN CHOICE (log 16): the draw is chosen by
`epoch` alone, so a second instance (spec/20_memory.md R73) has a draw of its own only under another number. -/
def State.powerOn (cfg : Config) (epoch : Nat) : State where
  cfg := cfg
  buf := []
  stage := []
  len := 0
  completed := false
  hold := false
  txopen := false
  altered := false
  ridx := 0
  lastfeed := .incomplete
  ctrl := 0b001
  errcnt := 0
  seq := cfg.seqInit
  ev := 0
  tag := 0
  txout := []
  epoch := epoch
  pending := []
  responses := []

/-- The machine right after power-on reset (R47). The configuration is open (R6): DESIGN CHOICE
(log 2), TC-CMD of spec/95_test_vectors.md; unsafe. Nothing is placed to run (log 6). -/
def State.reset : State := State.powerOn (Config.testVectors .cmd) 0

end Sys2Proof.Machine
end

