-- ==== Sys2Proof/Machine/Memory.lean ====
section
/-! DEFINITION. Bytes and words (spec/00_scope.md R10, spec/20_memory.md R60 to R62) and the buffers as
lists of written bytes: one read, one write, and the bounds of an array of CAP bytes
(spec/10_state.md R23, R24). -/

namespace Sys2Proof.Machine

/-- `le16(lo, hi)`: the word with low byte `lo` and high byte `hi` (R10). -/
def le16 (lo hi : Byte) : Word := hi ++ lo

/-- `lo16(v) = v[7:0]` (R10). -/
def lo16 (v : Word) : Byte := v.extractLsb' 0 8

/-- `hi16(v) = v[15:8]` (R10). -/
def hi16 (v : Word) : Byte := v.extractLsb' 8 8

/-- `le32(b0, b1, b2, b3)` (R10). -/
def le32 (b0 b1 b2 b3 : Byte) : DWord := b3 ++ b2 ++ b1 ++ b0

/-- The byte last written at an offset, none where nothing has been written. -/
def Memory.read : Memory → Nat → Option Byte
  | [], _ => none
  | (a, b) :: m, k => if k = a then some b else Memory.read m k

/-- Write one byte; the list stays in rising order of offset. -/
def Memory.write : Memory → Nat → Byte → Memory
  | [], k, v => [(k, v)]
  | (a, b) :: m, k, v =>
    if k < a then (k, v) :: (a, b) :: m
    else if k = a then (k, v) :: m
    else (a, b) :: Memory.write m k v

/-- Write one byte of an array of `cap` bytes. The array has no byte at or above `cap`: a write there
has no place to go and does nothing. No run gets there (spec/10_state.md R46; log 10). -/
def Memory.store (cap : Nat) (m : Memory) (k : Nat) (v : Byte) : Memory :=
  if k < cap then m.write k v else m

/-- Write a sequence of bytes at rising offsets from `k` (`MemWrite` of R10). -/
def Memory.storeBytes (cap : Nat) (m : Memory) (k : Nat) : List Byte → Memory
  | [] => m
  | v :: vs => Memory.storeBytes cap (m.store cap k v) (k + 1) vs

/-- Every listed offset is above `k`, rising, and below `cap`. -/
def Memory.wfFrom (cap : Nat) : Nat → Memory → Bool
  | _, [] => true
  | k, (a, _) :: m => decide (k ≤ a) && decide (a < cap) && Memory.wfFrom cap (a + 1) m

/-- The canonical form of a buffer of `cap` bytes: offsets strictly rising and inside the buffer. -/
def Memory.wf (cap : Nat) (m : Memory) : Bool := Memory.wfFrom cap 0 m

end Sys2Proof.Machine
end

