-- ==== Sys2Proof/Machine/Params.lean ====
section
/-! DEFINITION. What the configuration determines: the derived constants of spec/00_scope.md R6, the
lookup in SCHEMA (R8), the schema length rule (spec/43_telemetry_packet.md R206) and the constraints a
configuration must meet (R6). -/

namespace Sys2Proof

/-- `H`, the header size: 8 for CMD, 16 for TLM (R6). -/
def Config.headerSize (c : Config) : Nat :=
  match c.kind with
  | .cmd => 8
  | .tlm => 16

/-- `MAXP`, the maximum payload: M_c or M_t (R6). -/
def Config.maxPayload (c : Config) : Nat :=
  match c.kind with
  | .cmd => c.cmdMaxPayload
  | .tlm => c.tlmMaxPayload

/-- `CAP`, the capacity: header size plus maximum payload (R6, R7). -/
def Config.capacity (c : Config) : Nat := c.headerSize + c.maxPayload

/-- `SCHEMA(t)`: the entry of a type byte, none where it is undefined (R8). -/
def Config.schemaAt (c : Config) (t : Byte) : Option SchemaEntry := c.schema.lookup t

/-- `lenOK(e, L)`: a variable-length type accepts every length up to its maximum, a fixed-length type
exactly its one length (spec/43_telemetry_packet.md R206). -/
def SchemaEntry.lenOK (e : SchemaEntry) (l : Nat) : Bool :=
  if e.isVar then decide (l ≤ e.len) else decide (l = e.len)

/-- The constraints of R6: 1 <= M_c <= 256, every schema length at most M_t, M_t <= 65535; and SCHEMA
is a map, in the one form of its list (types strictly rising; log 8). R8: a command instance does not
use SCHEMA, but the constraint of R6 is on the parameters as they stand. -/
def Config.valid (c : Config) : Bool :=
  decide (1 ≤ c.cmdMaxPayload) && decide (c.cmdMaxPayload ≤ 256) &&
  decide (c.tlmMaxPayload ≤ 65535) &&
  c.schema.all (fun row => decide (row.2.len ≤ c.tlmMaxPayload)) &&
  decide (c.schema.Pairwise (fun x y => x.1.toNat < y.1.toNat))

end Sys2Proof
end

