-- ==== Sys2Proof/Machine/Ops.lean ====
section
/-! DEFINITION. The named operations over the state: BUF and STAGE, the packet image and its checksum,
answering a request, the effects of a framing error and of a completion, and power-on reset. -/

namespace Sys2Proof.Machine

/-! ### Buffers -/

/-- `BUF[k]`: the byte last written, else the byte's free value after this power-on reset (R23, R47). -/
def State.readBuf (s : State) (k : Nat) : Byte := (s.buf.read k).getD (Config.bufDraw s.epoch k)

/-- `STAGE[k]`, as `readBuf` (R24, R47). -/
def State.readStage (s : State) (k : Nat) : Byte := (s.stage.read k).getD (Config.stageDraw s.epoch k)

/-- `BUF[k] <- v`. -/
def State.setBuf (s : State) (k : Nat) (v : Byte) : State :=
  { s with buf := s.buf.store s.cfg.capacity k v }

/-- `BUF[k] <- w[7:0]; BUF[k+1] <- w[15:8]` (spec/20_memory.md R60, R62). -/
def State.setBufWord (s : State) (k : Nat) (w : Word) : State := (s.setBuf k (lo16 w)).setBuf (k + 1) (hi16 w)

/-- `BUF[k .. k + |vs|) <- vs`. -/
def State.setBufBytes (s : State) (k : Nat) (vs : List Byte) : State :=
  { s with buf := s.buf.storeBytes s.cfg.capacity k vs }

/-- `STAGE[k] <- v`. -/
def State.setStage (s : State) (k : Nat) (v : Byte) : State :=
  { s with stage := s.stage.store s.cfg.capacity k v }

/-- `le16(BUF[k], BUF[k+1])` (R62). -/
def State.readBufWord (s : State) (k : Nat) : Word := le16 (s.readBuf k) (s.readBuf (k + 1))

/-- `le16(STAGE[k], STAGE[k+1])` (R62). -/
def State.readStageWord (s : State) (k : Nat) : Word := le16 (s.readStage k) (s.readStage (k + 1))

/-- `BUF[0..n)`, in rising order of offset (R10). -/
def State.bufPrefix (s : State) (n : Nat) : List Byte := (List.range n).map s.readBuf

/-- `STAGE[0..n)`. -/
def State.stagePrefix (s : State) (n : Nat) : List Byte := (List.range n).map s.readStage

/-! ### The checksum engine (spec/40_checksum.md) -/

/-- The form of a checksum function (R120, R121). -/
abbrev Checksum := List Byte → Word

/-- `CKz(X, N)` for a sequence X of N bytes: the checksum of X with bytes 6 and 7 taken as zero (R123).
Every use of the engine goes through it (R128). -/
def ckz (ck : Checksum) (x : List Byte) : Word := ck ((x.set 6 0).set 7 0)

/-- The stored checksum of the packet in BUF: `le16(BUF[6], BUF[7])` (R124). -/
def State.storedChecksum (s : State) : Word := s.readBufWord 6

/-- `CKz(BUF, LEN)`, the checksum of the packet image (R123, R125). -/
def State.imageChecksum (ck : Checksum) (s : State) : Word := ckz ck (s.bufPrefix s.len.toNat)

/-- Compute the checksum of the packet image, store it in bytes 6 and 7 and clear ALTERED: what
SET_CHECKSUM (R125) and FINALIZE (spec/42_command_packet.md R173) do with a packet. -/
def State.sealChecksum (ck : Checksum) (s : State) : State :=
  { s.setBufWord 6 (s.imageChecksum ck) with altered := false }

/-! ### Answering a request -/

/-- What a transaction leads to: the state after it, and its response (R276). -/
abbrev Reply := State × Response

/-- `return (st, 0, data)`: the response without ACC (R10). -/
def State.reply (s : State) (st : Status) (data : DWord := 0) : Reply := (s, { status := st, acc := false, data := data })

/-- The response is returned to the host (R65, R69): it joins the record of responses (R304). -/
def State.record (s : State) (r : Response) : State := { s with responses := s.responses ++ [r] }

/-- The end of a transaction: the machine goes on with the response recorded (R276: every request has
exactly one response, and none makes the block fault). -/
def finish (r : Reply) : Host.Outcome State Fault Refusal := .next (r.1.record r.2)

/-- An operation defined for one KIND only: on an instance of the other it answers BAD_COMMAND, with no
state change (spec/30_encoding.md R87). -/
def onlyFor (k : Kind) (s : State) (r : Reply) : Reply := if s.cfg.kind = k then r else s.reply .badCommand

/-! ### Framing errors and completion (the analogues of taking an exception) -/

/-- The statuses that are framing errors when FEED returns them (spec/42_command_packet.md, the set
FRAMING; spec/30_encoding.md R82). -/
def Status.isFraming : Status → Bool
  | .noSync | .lengthError | .unknownType | .crcError => true
  | .ok | .incomplete | .bufferFull | .endOfPacket | .notCompleted | .noPacket | .held | .badCommand
  | .outOfRange => false

/-- CTRL.AUTO (spec/10_state.md R33). -/
def State.auto (s : State) : Bool := s.ctrl.getLsbD 0

/-- `framing_error_effects()` (spec/42_command_packet.md R167; spec/60_exceptions.md R268): the count,
the sticky ERR bit, and the hold where AUTO is 0. The step that raised the error has set LEN to 0. -/
def State.framingError (s : State) : State :=
  { s with errcnt := s.errcnt + 1, ev := s.ev ||| 0b10, hold := s.hold || !s.auto }

/-- `HOLD <- 0`: leaving HELD-ERR (spec/44_control.md R242; spec/60_exceptions.md R269). -/
def State.releaseHold (s : State) : State := { s with hold := false }

/-- `completion_effects()` (spec/42_command_packet.md R168; spec/43_telemetry_packet.md R207). A
completed telemetry packet has a type in SCHEMA (R46); were it to have none, TAG is kept (log 10). -/
def State.completion (s : State) : State :=
  { s with
    completed := true
    ridx := 0
    ev := s.ev ||| 0b01
    tag := match s.cfg.kind with
      | .cmd => s.tag
      | .tlm => ((s.cfg.schemaAt (s.readBuf 2)).map (·.tag)).getD s.tag }

/-! ### Power-on reset -/

/-- RST (spec/70_reset_and_hazards.md R290, R291): every field at its power-on value, a fresh draw of
BUF and STAGE, and a new record of emitted bytes and of responses. The host's further moves stay. -/
def State.applyRst (s : State) : State := { State.powerOn s.cfg (s.epoch + 1) with pending := s.pending }

end Sys2Proof.Machine
end

