-- ==== Sys2Proof/Machine/Operands.lean ====
section
/-! DEFINITION. What an operation computes from its operands and the cursors before it acts: the bounds
checks of spec/41_buffer.md R140 to R142, the declared length, and the implicit offsets of
spec/20_memory.md R64. The assembly of the operand fields themselves (spec/30_encoding.md R84) is in
Decode.lean. -/

namespace Sys2Proof.Machine

/-- `ensureWriteSpace(k)`: `LEN + k <= CAP` (R140). -/
def State.writeSpace (s : State) (k : Nat) : Bool := decide (s.len.toNat + k ≤ s.cfg.capacity)

/-- `DECL`, the declared payload length: BUF[3] for CMD, `le16(BUF[4], BUF[5])` for TLM
(spec/41_buffer.md; spec/00_scope.md R12). -/
def State.declared (s : State) : Nat :=
  match s.cfg.kind with
  | .cmd => (s.readBuf 3).toNat
  | .tlm => (s.readBufWord 4).toNat

/-- `ensureReadSpace(k)`: `DECL - 2*RIDX >= k` on integers (R141). -/
def State.readSpace (s : State) (k : Nat) : Bool := decide (2 * s.ridx.toNat + k ≤ s.declared)

/-- `inRange(off, k)`: `off + k <= CAP`, the sum without overflow (R142). -/
def State.inRange (s : State) (off : DWord) (k : Nat) : Bool := decide (off.toNat + k ≤ s.cfg.capacity)

/-- The offset of the payload word under the read cursor: `H + 2*RIDX` (R148). -/
def State.cursorOffset (s : State) : Nat := s.cfg.headerSize + 2 * s.ridx.toNat

/-- `LEN - H`, the payload length of an output packet, which has LEN >= H (spec/10_state.md R46; log 11). -/
def State.payloadLen (s : State) : Nat := s.len.toNat - s.cfg.headerSize

/-- `SCHEMA(BUF[2])`, the entry of the telemetry packet in BUF. -/
def State.schemaEntry (s : State) : Option SchemaEntry := s.cfg.schemaAt (s.readBuf 2)

/-! ### The header fields as views of BUF (spec/10_state.md R40, R41) -/

/-- `syncWord` (R40, R41). -/
def State.syncWord (s : State) : Word := s.readBufWord 0

/-- `targetId` of a command packet (R40); `type` of a telemetry packet (R41). -/
def State.targetOrType (s : State) : Byte := s.readBuf 2

/-- `sourceId` of a telemetry packet (R41). -/
def State.sourceIdField (s : State) : Byte := s.readBuf 3

/-- `sequenceId` of a command packet (R40). -/
def State.sequenceId (s : State) : Word := s.readBufWord 4

/-- `timeNanos` of a telemetry packet (R41). -/
def State.timeNanos (s : State) : DWord := le32 (s.readBuf 8) (s.readBuf 9) (s.readBuf 10) (s.readBuf 11)

/-- `timeSeconds` of a telemetry packet (R41). -/
def State.timeSeconds (s : State) : DWord := le32 (s.readBuf 12) (s.readBuf 13) (s.readBuf 14) (s.readBuf 15)

/-- Payload word `k`: `le16(BUF[H+2k], BUF[H+2k+1])` (R40; spec/30_encoding.md R94). -/
def State.payloadWord (s : State) (k : Nat) : Word := s.readBufWord (s.cfg.headerSize + 2 * k)

end Sys2Proof.Machine
end

