-- ==== Sys2Proof/Machine/Flags.lean ====
section
/-! DEFINITION. Everything derived from the state: the status word, EXPECT and REMAIN, the phase, the
interrupt output, the register map and the response word. -/

namespace Sys2Proof.Machine

/-- The code of a status (spec/30_encoding.md R82). -/
def Status.code : Status → BitVec 4
  | .ok => 0
  | .incomplete => 1
  | .noSync => 2
  | .lengthError => 3
  | .crcError => 4
  | .unknownType => 5
  | .bufferFull => 6
  | .endOfPacket => 7
  | .notCompleted => 8
  | .noPacket => 9
  | .held => 10
  | .badCommand => 11
  | .outOfRange => 12

/-- The response word: STATUS [3:0], ACC [4], zeros [31:5], DATA [63:32] (spec/30_encoding.md R81). -/
def Response.word (r : Response) : PortWord := r.data ++ (0 : BitVec 27) ++ BitVec.ofBool r.acc ++ r.status.code

/-- ISRESET = (LEN == 0) (spec/10_state.md R27). -/
def State.isReset (s : State) : Bool := decide (s.len = 0)

/-- EXPECT: the packet extent once the declared length is known, otherwise 0 (spec/10_state.md R38). -/
def State.expect (s : State) : Nat :=
  if s.txopen then 0
  else match s.cfg.kind with
    | .cmd => if 4 ≤ s.len.toNat then 8 + (s.readBuf 3).toNat else 0
    | .tlm => if 6 ≤ s.len.toNat then 16 + (s.readBufWord 4).toNat else 0

/-- REMAIN = EXPECT - LEN if EXPECT != 0, else 0 (spec/10_state.md R39). Where EXPECT is not 0, no run
has LEN above it (R46; log 11). -/
def State.remain (s : State) : Nat := if s.expect ≠ 0 then s.expect - s.len.toNat else 0

/-- The interrupt output: `(EV.DONE and CTRL.IE_DONE) or (EV.ERR and CTRL.IE_ERR)`
(spec/60_exceptions.md R266). -/
def State.irq (s : State) : Bool := (s.ev.getLsbD 0 && s.ctrl.getLsbD 1) || (s.ev.getLsbD 1 && s.ctrl.getLsbD 2)

/-- The reassembly phases (spec/10_state.md R42). -/
inductive Phase where
  | tx | done | heldErr | hunt | sync1 | header | payload
deriving DecidableEq, Repr

/-- The phase: the first condition of R42's table that holds; none where none does, which no run
reaches (R42, R46). -/
def State.phase (s : State) : Option Phase :=
  if s.txopen then some .tx
  else if s.completed then some .done
  else if s.hold then some .heldErr
  else if s.len.toNat = 0 then some .hunt
  else if s.len.toNat = 1 then some .sync1
  else if s.len.toNat < s.cfg.headerSize then some .header
  else if s.len.toNat < s.expect then some .payload
  else none

/-- The STATUS register (spec/10_state.md R44). -/
def State.statusWord (s : State) : DWord :=
  (0 : BitVec 23) ++ BitVec.ofBool s.altered ++ BitVec.ofBool s.txopen ++ BitVec.ofBool s.hold ++
    BitVec.ofBool s.isReset ++ BitVec.ofBool s.completed ++ s.lastfeed.code

/-- The INFO register: [0] KIND, [15:8] H (spec/10_state.md R43). -/
def State.infoWord (s : State) : DWord :=
  (0 : BitVec 16) ++ BitVec.ofNat 8 s.cfg.headerSize ++ (0 : BitVec 7) ++ BitVec.ofBool (decide (s.cfg.kind = .tlm))

/-- A 17-bit register's value on the 32-bit data word (spec/10_state.md R43: zero-extended). -/
def field17 (n : Nat) : DWord := (BitVec.ofNat 17 n).setWidth 32

/-- The register map of spec/10_state.md R43: register `r`'s value, zero-extended; none for r >= 13. -/
def State.register (s : State) (r : Nat) : Option DWord :=
  match r with
  | 0 => some s.statusWord
  | 1 => some (s.ctrl.setWidth 32)
  | 2 => some (s.len.setWidth 32)
  | 3 => some (s.ridx.setWidth 32)
  | 4 => some (field17 s.expect)
  | 5 => some (field17 s.remain)
  | 6 => some s.errcnt
  | 7 => some (s.seq.setWidth 32)
  | 8 => some (s.ev.setWidth 32)
  | 9 => some s.tag
  | 10 => some s.infoWord
  | 11 => some (field17 s.cfg.capacity)
  | 12 => some (field17 s.cfg.maxPayload)
  | _ => none

end Sys2Proof.Machine
end

