-- ==== Sys2Proof/Machine/Buffer.lean ====
section
/-! DEFINITION. Explicit-offset accesses and the read cursor: READ_BYTE, READ_WORD, WRITE_BYTE,
WRITE_WORD, STAGE_WRITE, GET_WORD, PEEK_WORD (spec/41_buffer.md). -/

namespace Sys2Proof.Machine

/-- READ_BYTE (R143): in every phase, any byte of BUF. -/
def execReadByte (offset : DWord) (s : State) : Host.Outcome State Fault Refusal :=
  finish (if s.inRange offset 1 then s.reply .ok ((s.readBuf offset.toNat).setWidth 32) else s.reply .outOfRange)

/-- READ_WORD (R144): any offset, odd ones included. -/
def execReadWord (offset : DWord) (s : State) : Host.Outcome State Fault Refusal :=
  finish (if s.inRange offset 2 then s.reply .ok ((s.readBufWord offset.toNat).setWidth 32)
    else s.reply .outOfRange)

/-- The checks WRITE_BYTE and WRITE_WORD share, in their order: NO_PACKET, OUT_OF_RANGE (R145, R146). -/
def State.writeAt (s : State) (offset : DWord) (k : Nat) (written : State) : Reply :=
  if s.txopen then
    if s.inRange offset k then { written with altered := true }.reply .ok else s.reply .outOfRange
  else s.reply .noPacket

/-- WRITE_BYTE (R145). LEN does not change. -/
def execWriteByte (offset : DWord) (v : Byte) (s : State) : Host.Outcome State Fault Refusal :=
  finish (s.writeAt offset 1 (s.setBuf offset.toNat v))

/-- WRITE_WORD (R146). -/
def execWriteWord (offset : DWord) (w : Word) (s : State) : Host.Outcome State Fault Refusal :=
  finish (s.writeAt offset 2 (s.setBufWord offset.toNat w))

/-- STAGE_WRITE (R147): in every phase; STAGE too has CAP bytes. -/
def execStageWrite (offset : DWord) (v : Byte) (s : State) : Host.Outcome State Fault Refusal :=
  finish (if s.inRange offset 1 then (s.setStage offset.toNat v).reply .ok else s.reply .outOfRange)

/-- Read the payload word under the cursor and leave the cursor at `next`; the checks of R148 and R149
in their order: NOT_COMPLETED, END_OF_PACKET. -/
def State.readCursor (s : State) (next : BitVec 16) : Reply :=
  if s.completed then
    if s.readSpace 2 then { s with ridx := next }.reply .ok ((s.readBufWord s.cursorOffset).setWidth 32)
    else s.reply .endOfPacket
  else s.reply .notCompleted

/-- GET_WORD (R148). -/
def execGetWord (s : State) : Host.Outcome State Fault Refusal := finish (s.readCursor (s.ridx + 1))

/-- PEEK_WORD (R149): the cursor stays. -/
def execPeekWord (s : State) : Host.Outcome State Fault Refusal := finish (s.readCursor s.ridx)

end Sys2Proof.Machine
end

