-- ==== Sys2Proof/Machine/Checksum.lean ====
section
/-! DEFINITION. SET_CHECKSUM and VERIFY_CHECKSUM (spec/40_checksum.md section 2), over any checksum
function; the instructions use `Config.ck`. -/

namespace Sys2Proof.Machine

/-- A packet is present: an output packet or a completed one (R125, R126). -/
def State.packetPresent (s : State) : Bool := s.txopen || s.completed

/-- SET_CHECKSUM (R125). -/
def setChecksum (ck : Checksum) (s : State) : Reply :=
  if s.packetPresent then (s.sealChecksum ck).reply .ok ((s.imageChecksum ck).setWidth 32)
  else s.reply .noPacket

/-- VERIFY_CHECKSUM (R126): no state change on either outcome; a mismatch is no framing error. -/
def verifyChecksum (ck : Checksum) (s : State) : Reply :=
  if s.packetPresent then
    if s.imageChecksum ck = s.storedChecksum then s.reply .ok ((s.imageChecksum ck).setWidth 32)
    else s.reply .crcError ((s.imageChecksum ck).setWidth 32)
  else s.reply .noPacket

/-- SET_CHECKSUM with the instance's CK. -/
def execSetChecksum (s : State) : Host.Outcome State Fault Refusal := finish (setChecksum Config.ck s)

/-- VERIFY_CHECKSUM with the instance's CK. -/
def execVerifyChecksum (s : State) : Host.Outcome State Fault Refusal := finish (verifyChecksum Config.ck s)

end Sys2Proof.Machine
end

