-- ==== Sys2Proof/Machine/Command.lean ====
section
/-! DEFINITION. The command-only operations: RESET_OUTPUT, SET_TARGET, ADD_WORD, CHECK_BUFFER
(spec/42_command_packet.md R169 to R172). -/

namespace Sys2Proof.Machine

/-- A new output packet of `n` header bytes: what RESET_OUTPUT (R170) and CREATE
(spec/43_telemetry_packet.md R209) do once the header bytes are written. -/
def State.openOutput (s : State) (n : Nat) : State :=
  { s with len := BitVec.ofNat 17 n, txopen := true, completed := false, hold := false, ridx := 0, altered := true }

/-- The header bytes RESET_OUTPUT writes for sequence id `q` (R170). -/
def commandHeader (q : Word) : List Byte := [0x9A, 0xC3, 0x00, 0x00, lo16 q, hi16 q, 0x00, 0x00]

/-- RESET_OUTPUT (R170), in every phase. -/
def resetOutput (s : State) : Reply :=
  { (s.setBufBytes 0 (commandHeader s.seq)).openOutput 8 with seq := s.seq + 1 }.reply .ok (s.seq.setWidth 32)

/-- SET_TARGET (R171). -/
def setTarget (id : Byte) (s : State) : Reply :=
  if s.txopen then { s.setBuf 2 id with altered := true }.reply .ok else s.reply .noPacket

/-- `BUF[LEN] <- w[7:0]; BUF[LEN+1] <- w[15:8]; LEN <- LEN + 2` (R172; spec/43_telemetry_packet.md R211). -/
def State.appendWord (s : State) (w : Word) : State := { s.setBufWord s.len.toNat w with len := s.len + 2 }

/-- ADD_WORD (R172): the payload stays strictly below M_c. -/
def addWord (w : Word) (s : State) : Reply :=
  if s.txopen then
    if !s.writeSpace 2 || decide (s.cfg.cmdMaxPayload ≤ s.payloadLen + 2) then s.reply .bufferFull
    else
      let s' := s.appendWord w
      { s'.setBuf 3 (BitVec.ofNat 8 s'.payloadLen) with altered := true }.reply .ok
  else s.reply .noPacket

/-- The checks of CHECK_BUFFER on STAGE[0..n), in their order (R169): the status that refuses, or none. -/
def checkBufferError (ck : Checksum) (n : Nat) (s : State) : Option Status :=
  if s.cfg.capacity < n ∨ n < 8 then some .lengthError
  else if s.readStage 0 ≠ 0x9A ∨ s.readStage 1 ≠ 0xC3 then some .noSync
  else if s.cfg.cmdMaxPayload ≤ (s.readStage 3).toNat then some .lengthError
  else if 8 + (s.readStage 3).toNat ≠ n then some .lengthError
  else if ckz ck (s.stagePrefix n) ≠ s.readStageWord 6 then some .crcError
  else none

/-- CHECK_BUFFER (R169): on success STAGE[0..N) becomes the completed packet in BUF; on failure nothing
changes. -/
def checkBuffer (ck : Checksum) (words : DWord) (s : State) : Reply :=
  let n := 2 * words.toNat
  match checkBufferError ck n s with
  | some st => s.reply st
  | none =>
    { s.setBufBytes 0 (s.stagePrefix n) with
      len := BitVec.ofNat 17 n, completed := true, txopen := false, hold := false, ridx := 0,
      altered := false, ev := s.ev ||| 0b01 }.reply .ok

/-- RESET_OUTPUT on a command instance (R87). -/
def execResetOutput (s : State) : Host.Outcome State Fault Refusal := finish (onlyFor .cmd s (resetOutput s))

/-- SET_TARGET on a command instance (R87). -/
def execSetTarget (id : Byte) (s : State) : Host.Outcome State Fault Refusal :=
  finish (onlyFor .cmd s (setTarget id s))

/-- ADD_WORD on a command instance (R87). -/
def execAddWord (w : Word) (s : State) : Host.Outcome State Fault Refusal := finish (onlyFor .cmd s (addWord w s))

/-- CHECK_BUFFER on a command instance (R87), with the instance's CK. -/
def execCheckBuffer (words : DWord) (s : State) : Host.Outcome State Fault Refusal :=
  finish (onlyFor .cmd s (checkBuffer Config.ck words s))

end Sys2Proof.Machine
end

