-- ==== Sys2Proof/Machine/Control.lean ====
section
/-! DEFINITION. Block control: NOP, RESET, CLR_HOLD, WR_CTRL, RD_REG, ACK_EV, CLR_ERRCNT
(spec/44_control.md section 1). -/

namespace Sys2Proof.Machine

/-- NOP: do nothing (R240). -/
def execNop (s : State) : Host.Outcome State Fault Refusal := finish (s.reply .ok)

/-- The packet goes back to the source's Reset state (R241). -/
def State.softReset (s : State) : State :=
  { s with len := 0, completed := false, hold := false, txopen := false, altered := false, ridx := 0,
           lastfeed := .incomplete }

/-- RESET (R241). -/
def execReset (s : State) : Host.Outcome State Fault Refusal := finish (s.softReset.reply .ok)

/-- CLR_HOLD (R242). -/
def execClrHold (s : State) : Host.Outcome State Fault Refusal := finish (s.releaseHold.reply .ok)

/-- WR_CTRL (R243): the operand is the three bits; a request with another bit of A set was refused by
the decoder (R85). A HOLD already set stays. -/
def execWrCtrl (v : BitVec 3) (s : State) : Host.Outcome State Fault Refusal := finish ({ s with ctrl := v }.reply .ok)

/-- RD_REG (R244): a register number above 12 answers BAD_COMMAND. -/
def execRdReg (r : Word) (s : State) : Host.Outcome State Fault Refusal :=
  finish (match s.register r.toNat with
    | some v => s.reply .ok v
    | none => s.reply .badCommand)

/-- ACK_EV: `EV <- EV & ~m` (R245). -/
def execAckEv (m : BitVec 2) (s : State) : Host.Outcome State Fault Refusal :=
  finish ({ s with ev := s.ev &&& ~~~m }.reply .ok)

/-- CLR_ERRCNT (R246). -/
def execClrErrcnt (s : State) : Host.Outcome State Fault Refusal := finish ({ s with errcnt := 0 }.reply .ok)

end Sys2Proof.Machine
end

