-- ==== Sys2Proof/Machine/Feed.lean ====
section
/-! DEFINITION. FEED and the two reassembly state machines (spec/42_command_packet.md R160 to R168,
spec/43_telemetry_packet.md R200 to R207). -/

namespace Sys2Proof.Machine

/-- What a step of a reassembly machine answers: the state, its status, and whether the byte was
consumed. -/
structure FsmStep where
  state : State
  status : Status
  acc : Bool

/-- `BUF[k] <- b; LEN <- k + 1; return (INCOMPLETE, 1)`: the byte at header position `k` is taken. -/
def takeByte (s : State) (k : Nat) (b : Byte) : FsmStep :=
  { state := { s.setBuf k b with len := BitVec.ofNat 17 (k + 1) }, status := .incomplete, acc := true }

/-- `LEN <- 0; return (st, 0)`: the byte at a header position is refused and not consumed. -/
def refuseByte (s : State) (st : Status) : FsmStep := { state := { s with len := 0 }, status := st, acc := false }

/-- LEN = 0, hunting (R161, R200): a byte other than 0x9A is consumed and dropped. -/
def huntStep (b : Byte) (s : State) : FsmStep :=
  if b = 0x9A then takeByte s 0 b else { state := s, status := .incomplete, acc := true }

/-- LEN = 1, second sync byte (R162, R200). -/
def syncStep (b : Byte) (s : State) : FsmStep := if b = 0xC3 then takeByte s 1 b else refuseByte s .noSync

/-- `BUF[LEN] <- b; LEN <- LEN + 1`. -/
def State.append (s : State) (b : Byte) : State := { s.setBuf s.len.toNat b with len := s.len + 1 }

/-- The rest of the header and the payload (R165, R205): the byte is stored, and on the last byte of
the extent the checksum decides. The byte is consumed in every case. -/
def bodyStep (ck : Checksum) (extent : Nat) (s' : State) : FsmStep :=
  if s'.len.toNat = extent then
    if s'.imageChecksum ck = s'.storedChecksum then { state := s', status := .ok, acc := true }
    else { state := { s' with len := 0 }, status := .crcError, acc := true }
  else { state := s', status := .incomplete, acc := true }

/-- `cmd_step` (R161 to R165). The last case is R165's: no run gets there with LEN at or above
`8 + BUF[3]` (R166; log 10). -/
def cmdStep (ck : Checksum) (b : Byte) (s : State) : FsmStep :=
  match s.len.toNat with
  | 0 => huntStep b s
  | 1 => syncStep b s
  | 2 => takeByte s 2 b
  | 3 => if s.cfg.cmdMaxPayload ≤ b.toNat then refuseByte s .lengthError else takeByte s 3 b
  | _ => let s' := s.append b; bodyStep ck (8 + (s'.readBuf 3).toNat) s'

/-- The length check at LEN = 5 (R204). At LEN = 5 the type in BUF[2] has an entry (R201, R46); were it
to have none, the byte is refused as R201 does (log 10). -/
def tlmLengthStep (b : Byte) (s : State) : FsmStep :=
  match s.schemaEntry with
  | none => refuseByte s .unknownType
  | some e => if e.lenOK (le16 (s.readBuf 4) b).toNat then takeByte s 5 b else refuseByte s .lengthError

/-- `tlm_step` (R200 to R205). The last case is R205's (log 10). -/
def tlmStep (ck : Checksum) (b : Byte) (s : State) : FsmStep :=
  match s.len.toNat with
  | 0 => huntStep b s
  | 1 => syncStep b s
  | 2 => if (s.cfg.schemaAt b).isNone then refuseByte s .unknownType else takeByte s 2 b
  | 3 => takeByte s 3 b
  | 4 => takeByte s 4 b
  | 5 => tlmLengthStep b s
  | _ => bodyStep ck (16 + (s.readBufWord 4).toNat) (s.append b)

/-- The step of the instance's KIND (R160). -/
def fsmStep (ck : Checksum) (b : Byte) (s : State) : FsmStep :=
  match s.cfg.kind with
  | .cmd => cmdStep ck b s
  | .tlm => tlmStep ck b s

/-- FEED accepts no byte: an output packet, a completed packet or a hold (R160). -/
def State.feedHeld (s : State) : Bool := s.txopen || s.completed || s.hold

/-- What follows a step with status `st` (R160): LASTFEED, then the effects of a framing error (R167) or
of a completion (R168). -/
def State.afterStep (s : State) (st : Status) : State :=
  let s := { s with lastfeed := st }
  let s := if st.isFraming then s.framingError else s
  if st = .ok then s.completion else s

/-- FEED (R160). -/
def feed (ck : Checksum) (b : Byte) (s : State) : Reply :=
  if s.feedHeld then s.reply .held
  else
    let r := fsmStep ck b s
    (r.state.afterStep r.status, { status := r.status, acc := r.acc, data := 0 })

/-- FEED with the instance's CK. -/
def execFeed (b : Byte) (s : State) : Host.Outcome State Fault Refusal := finish (feed Config.ck b s)

end Sys2Proof.Machine
end

