-- ==== Sys2Proof/Machine/Output.lean ====
section
/-! DEFINITION. FINALIZE and SEND, for both kinds (spec/42_command_packet.md R173, R174;
spec/43_telemetry_packet.md R212). -/

namespace Sys2Proof.Machine

/-- `tlm_finalize_length()` (R212): the state with the length field rewritten, or the status that
refuses, with nothing written. DESIGN CHOICE (log 17): with the checksum, FINALIZE so writes the four bytes
BUF[4..8) of a telemetry packet, as R173 and R212 say, where the table of spec/20_memory.md R64 says 2 or 3
and spec/90_conflicts.md does not name the difference; unsafe. -/
def tlmFinalizeLength (s : State) : Except Status State :=
  match s.schemaEntry with
  | none => .error .unknownType
  | some e =>
    if e.lenOK s.payloadLen then .ok (s.setBufWord 4 (BitVec.ofNat 16 s.payloadLen)) else .error .lengthError

/-- The length part of FINALIZE's body: BUF[3] for CMD (R173), R212 for TLM. -/
def finalizeLength (s : State) : Except Status State :=
  match s.cfg.kind with
  | .cmd => .ok (s.setBuf 3 (BitVec.ofNat 8 s.payloadLen))
  | .tlm => tlmFinalizeLength s

/-- The body of FINALIZE after its TXOPEN test (R173): the packet with length field and checksum
rewritten and the checksum, or the status that refuses, with nothing written. -/
def finalizeBody (ck : Checksum) (s : State) : Except Status (State × Word) :=
  (finalizeLength s).map (fun s' => (s'.sealChecksum ck, s'.imageChecksum ck))

/-- FINALIZE (R173): DATA is the checksum. -/
def finalize (ck : Checksum) (s : State) : Reply :=
  if s.txopen then
    match finalizeBody ck s with
    | .error st => s.reply st
    | .ok (s', c) => s'.reply .ok (c.setWidth 32)
  else s.reply .noPacket

/-- SEND (R174): the body of FINALIZE, then `BUF[0..LEN)` is emitted; DATA is the number of bytes. -/
def send (ck : Checksum) (s : State) : Reply :=
  if s.txopen then
    match finalizeBody ck s with
    | .error st => s.reply st
    | .ok (s', _) => { s' with txout := s'.txout ++ s'.bufPrefix s'.len.toNat }.reply .ok (s'.len.setWidth 32)
  else s.reply .noPacket

/-- FINALIZE with the instance's CK. -/
def execFinalize (s : State) : Host.Outcome State Fault Refusal := finish (finalize Config.ck s)

/-- SEND with the instance's CK. -/
def execSend (s : State) : Host.Outcome State Fault Refusal := finish (send Config.ck s)

end Sys2Proof.Machine
end

