-- ==== Sys2Proof/Machine/Telemetry.lean ====
section
/-! DEFINITION. The telemetry-only operations: CREATE, APPEND_BYTE, APPEND_WORD, VERIFY_BUFFER
(spec/43_telemetry_packet.md R208 to R211). -/

namespace Sys2Proof.Machine

/-- The header bytes CREATE writes for type `t` (R209): sync, type, source id, and zeros for the data
length, the checksum and the timestamps. -/
def telemetryHeader (t src : Byte) : List Byte := [0x9A, 0xC3, t, src] ++ List.replicate 12 0x00

/-- CREATE (R209), in every phase. -/
def create (t : Byte) (s : State) : Reply :=
  match s.cfg.schemaAt t with
  | none => s.reply .unknownType
  | some _ => ((s.setBufBytes 0 (telemetryHeader t s.cfg.sourceId)).openOutput 16).reply .ok

/-- An append of `k` bytes (R210, R211): `appended` is the packet with the bytes stored and LEN moved;
the length field follows LEN. -/
def appendChecked (k : Nat) (s appended : State) : Reply :=
  if s.txopen then
    match s.schemaEntry with
    | none => s.reply .unknownType
    | some e =>
      if !s.writeSpace k || decide (e.len < s.payloadLen + k) then s.reply .bufferFull
      else { appended.setBufWord 4 (BitVec.ofNat 16 appended.payloadLen) with altered := true }.reply .ok
  else s.reply .noPacket

/-- APPEND_BYTE (R210). -/
def appendByte (v : Byte) (s : State) : Reply :=
  appendChecked 1 s { s.setBuf s.len.toNat v with len := s.len + 1 }

/-- APPEND_WORD (R211). -/
def appendWord (w : Word) (s : State) : Reply := appendChecked 2 s (s.appendWord w)

/-- The verdict of VERIFY_BUFFER on STAGE[0..n), its checks in their order (R208). -/
def verifyBufferStatus (ck : Checksum) (n : Nat) (s : State) : Status :=
  if s.cfg.capacity < n ∨ n < 16 then .lengthError
  else if s.readStage 0 ≠ 0x9A ∨ s.readStage 1 ≠ 0xC3 then .noSync
  else match s.cfg.schemaAt (s.readStage 2) with
    | none => .unknownType
    | some e =>
      if !e.lenOK (s.readStageWord 4).toNat then .lengthError
      else if 16 + (s.readStageWord 4).toNat ≠ n then .lengthError
      else if ckz ck (s.stagePrefix n) ≠ s.readStageWord 6 then .crcError
      else .ok

/-- VERIFY_BUFFER (R208): a verdict, and no state change on any outcome. -/
def verifyBuffer (ck : Checksum) (bytes : DWord) (s : State) : Reply :=
  s.reply (verifyBufferStatus ck bytes.toNat s)

/-- CREATE on a telemetry instance (R87). -/
def execCreate (t : Byte) (s : State) : Host.Outcome State Fault Refusal := finish (onlyFor .tlm s (create t s))

/-- APPEND_BYTE on a telemetry instance (R87). -/
def execAppendByte (v : Byte) (s : State) : Host.Outcome State Fault Refusal :=
  finish (onlyFor .tlm s (appendByte v s))

/-- APPEND_WORD on a telemetry instance (R87). -/
def execAppendWord (w : Word) (s : State) : Host.Outcome State Fault Refusal :=
  finish (onlyFor .tlm s (appendWord w s))

/-- VERIFY_BUFFER on a telemetry instance (R87), with the instance's CK. -/
def execVerifyBuffer (bytes : DWord) (s : State) : Host.Outcome State Fault Refusal :=
  finish (onlyFor .tlm s (verifyBuffer Config.ck bytes s))

end Sys2Proof.Machine
end

