-- ==== Sys2Proof/Syntax.lean ====
section
/-! DEFINITION. The 27 operations of spec/30_encoding.md R83, one constructor for each row of
spec/opcode_table.json. The fields are the operands after the assembly of R84: each has exactly the
bits the operation uses, so the reserved bits are no part of an instruction. -/

namespace Sys2Proof

/-- An operation of the host transaction port with its operands (R83, R84). -/
inductive Instr where
  -- block control (spec/44_control.md)
  | nop
  | reset
  -- reassembly input (spec/42_command_packet.md R160)
  | feed (b : Byte)
  | clrHold
  | wrCtrl (v : BitVec 3)
  | rdReg (r : Word)
  | ackEv (m : BitVec 2)
  | clrErrcnt
  -- read cursor and buffer accesses (spec/41_buffer.md)
  | getWord
  | peekWord
  | readByte (offset : DWord)
  | readWord (offset : DWord)
  | writeByte (offset : DWord) (v : Byte)
  | writeWord (offset : DWord) (w : Word)
  | stageWrite (offset : DWord) (v : Byte)
  -- checksum engine (spec/40_checksum.md)
  | setChecksum
  | verifyChecksum
  -- output packets of both kinds (spec/42_command_packet.md R173, R174)
  | finalize
  | send
  -- command packets (spec/42_command_packet.md)
  | resetOutput
  | setTarget (id : Byte)
  | addWord (w : Word)
  | checkBuffer (words : DWord)
  -- telemetry packets (spec/43_telemetry_packet.md)
  | create (t : Byte)
  | appendByte (v : Byte)
  | appendWord (w : Word)
  | verifyBuffer (bytes : DWord)
deriving DecidableEq, Repr

end Sys2Proof
end

