-- ==== Sys2Proof/Machine/Dispatch.lean ====
section
/-! DEFINITION. The one dispatch from an instruction to its meaning (spec/30_encoding.md R83). -/

namespace Sys2Proof.Machine

def exec (i : Instr) (s : State) : Host.Outcome State Fault Refusal :=
  match i with
  | .nop => Sys2Proof.Machine.execNop s
  | .reset => Sys2Proof.Machine.execReset s
  | .feed b => Sys2Proof.Machine.execFeed b s
  | .clrHold => Sys2Proof.Machine.execClrHold s
  | .wrCtrl v => Sys2Proof.Machine.execWrCtrl v s
  | .rdReg r => Sys2Proof.Machine.execRdReg r s
  | .ackEv m => Sys2Proof.Machine.execAckEv m s
  | .clrErrcnt => Sys2Proof.Machine.execClrErrcnt s
  | .getWord => Sys2Proof.Machine.execGetWord s
  | .peekWord => Sys2Proof.Machine.execPeekWord s
  | .readByte offset => Sys2Proof.Machine.execReadByte offset s
  | .readWord offset => Sys2Proof.Machine.execReadWord offset s
  | .writeByte offset v => Sys2Proof.Machine.execWriteByte offset v s
  | .writeWord offset w => Sys2Proof.Machine.execWriteWord offset w s
  | .stageWrite offset v => Sys2Proof.Machine.execStageWrite offset v s
  | .setChecksum => Sys2Proof.Machine.execSetChecksum s
  | .verifyChecksum => Sys2Proof.Machine.execVerifyChecksum s
  | .finalize => Sys2Proof.Machine.execFinalize s
  | .send => Sys2Proof.Machine.execSend s
  | .resetOutput => Sys2Proof.Machine.execResetOutput s
  | .setTarget id => Sys2Proof.Machine.execSetTarget id s
  | .addWord w => Sys2Proof.Machine.execAddWord w s
  | .checkBuffer words => Sys2Proof.Machine.execCheckBuffer words s
  | .create t => Sys2Proof.Machine.execCreate t s
  | .appendByte v => Sys2Proof.Machine.execAppendByte v s
  | .appendWord w => Sys2Proof.Machine.execAppendWord w s
  | .verifyBuffer bytes => Sys2Proof.Machine.execVerifyBuffer bytes s

end Sys2Proof.Machine
end

