-- ==== Sys2Proof/Decode.lean ====
section
/-! DEFINITION. Decoding and encoding of the 64-bit request word (spec/30_encoding.md R80, R83 to R86).
Decoding is total and rejects by name; the KIND test of R87 is not made here but where the operation is
carried out (log 9). -/

namespace Sys2Proof

/-- The four fields of a request word (R80). -/
structure RequestFields where
  op : Byte
  rsv : Byte
  a : Word
  b : DWord
deriving DecidableEq, Repr

/-- The fields of a request word: OP [7:0], RSV [15:8], A [31:16], B [63:32] (R80). -/
def RequestFields.ofWord (w : PortWord) : RequestFields where
  op := w.extractLsb' 0 8
  rsv := w.extractLsb' 8 8
  a := w.extractLsb' 16 16
  b := w.extractLsb' 32 32

/-- The request word with given fields (R80). -/
def RequestFields.toWord (f : RequestFields) : PortWord := f.b ++ f.a ++ f.rsv ++ f.op

/-- Why a request word is no instruction. Each answers BAD_COMMAND (R85, R86, R88). -/
inductive DecodeError where
  /-- R86: OP is not in the table of R83. -/
  | undefinedOpcode (op : Byte)
  /-- R85: a bit of RSV is set. -/
  | reservedRsv (rsv : Byte)
  /-- R85: a bit of A that R84 reserves for this OP is set. -/
  | reservedA (a : Word)
  /-- R85: B is not an operand of this OP (R84) and is not 0. -/
  | reservedB (b : DWord)
deriving DecidableEq, Repr

/-- The operand in the low `n` bits of A; the bits above are reserved (R84). `n = 0`: A is no operand. -/
def operandA (n : Nat) (a : Word) : Except DecodeError (BitVec n) :=
  if a.toNat < 2 ^ n then .ok (a.setWidth n) else .error (.reservedA a)

/-- B where it is no operand: all of it is reserved (R84). -/
def noOperandB (b : DWord) : Except DecodeError Unit :=
  if b = 0 then .ok () else .error (.reservedB b)

/-- An operation with no operand in B and the operand `A[n-1:0]` (R84). -/
def decodeA (n : Nat) (f : RequestFields) (mk : BitVec n → Instr) : Except DecodeError Instr := do
  let v ← operandA n f.a
  noOperandB f.b
  return mk v

/-- An operation with no operand (R84). -/
def decodeNone (f : RequestFields) (i : Instr) : Except DecodeError Instr := decodeA 0 f (fun _ => i)

/-- An operation with an offset or a length in B and the operand `A[n-1:0]` (R84). -/
def decodeAB (n : Nat) (f : RequestFields) (mk : DWord → BitVec n → Instr) : Except DecodeError Instr := do
  let v ← operandA n f.a
  return mk f.b v

/-- An operation with an offset or a length in B alone (R84). -/
def decodeB (f : RequestFields) (mk : DWord → Instr) : Except DecodeError Instr :=
  decodeAB 0 f (fun b _ => mk b)

/-- The opcode map of R83 on the fields of a request whose RSV is 0. -/
def decodeOp (f : RequestFields) : Except DecodeError Instr :=
  match f.op.toNat with
  | 0x00 => decodeNone f .nop
  | 0x01 => decodeNone f .reset
  | 0x02 => decodeA 8 f .feed
  | 0x03 => decodeNone f .clrHold
  | 0x04 => decodeA 3 f .wrCtrl
  | 0x05 => decodeA 16 f .rdReg
  | 0x06 => decodeA 2 f .ackEv
  | 0x07 => decodeNone f .clrErrcnt
  | 0x08 => decodeNone f .getWord
  | 0x09 => decodeNone f .peekWord
  | 0x0A => decodeB f .readByte
  | 0x0B => decodeB f .readWord
  | 0x0C => decodeAB 8 f .writeByte
  | 0x0D => decodeAB 16 f .writeWord
  | 0x0E => decodeAB 8 f .stageWrite
  | 0x0F => decodeNone f .setChecksum
  | 0x10 => decodeNone f .verifyChecksum
  | 0x11 => decodeNone f .finalize
  | 0x12 => decodeNone f .send
  | 0x20 => decodeNone f .resetOutput
  | 0x21 => decodeA 8 f .setTarget
  | 0x22 => decodeA 16 f .addWord
  | 0x23 => decodeB f .checkBuffer
  | 0x30 => decodeA 8 f .create
  | 0x31 => decodeA 8 f .appendByte
  | 0x32 => decodeA 16 f .appendWord
  | 0x33 => decodeB f .verifyBuffer
  | _ => .error (.undefinedOpcode f.op)

/-- Decoding of a request word (R84 to R86, R88). -/
def decode (w : PortWord) : Except DecodeError Instr :=
  let f := RequestFields.ofWord w
  if f.rsv = 0 then decodeOp f else .error (.reservedRsv f.rsv)

/-- The OP of an instruction (R83). -/
def opcode : Instr → Byte
  | .nop => 0x00
  | .reset => 0x01
  | .feed _ => 0x02
  | .clrHold => 0x03
  | .wrCtrl _ => 0x04
  | .rdReg _ => 0x05
  | .ackEv _ => 0x06
  | .clrErrcnt => 0x07
  | .getWord => 0x08
  | .peekWord => 0x09
  | .readByte _ => 0x0A
  | .readWord _ => 0x0B
  | .writeByte _ _ => 0x0C
  | .writeWord _ _ => 0x0D
  | .stageWrite _ _ => 0x0E
  | .setChecksum => 0x0F
  | .verifyChecksum => 0x10
  | .finalize => 0x11
  | .send => 0x12
  | .resetOutput => 0x20
  | .setTarget _ => 0x21
  | .addWord _ => 0x22
  | .checkBuffer _ => 0x23
  | .create _ => 0x30
  | .appendByte _ => 0x31
  | .appendWord _ => 0x32
  | .verifyBuffer _ => 0x33

/-- The field A of an instruction: every operand but offsets and lengths, zero-extended (R84, R96). -/
def fieldA : Instr → Word
  | .feed b => b.setWidth 16
  | .wrCtrl v => v.setWidth 16
  | .rdReg r => r
  | .ackEv m => m.setWidth 16
  | .writeByte _ v => v.setWidth 16
  | .writeWord _ w => w
  | .stageWrite _ v => v.setWidth 16
  | .setTarget id => id.setWidth 16
  | .addWord w => w
  | .create t => t.setWidth 16
  | .appendByte v => v.setWidth 16
  | .appendWord w => w
  | .nop | .reset | .clrHold | .clrErrcnt | .getWord | .peekWord | .readByte _ | .readWord _
  | .setChecksum | .verifyChecksum | .finalize | .send | .resetOutput | .checkBuffer _
  | .verifyBuffer _ => 0

/-- The field B of an instruction: its offset or length (R84, R96). -/
def fieldB : Instr → DWord
  | .readByte o => o
  | .readWord o => o
  | .writeByte o _ => o
  | .writeWord o _ => o
  | .stageWrite o _ => o
  | .checkBuffer n => n
  | .verifyBuffer n => n
  | .nop | .reset | .feed _ | .clrHold | .wrCtrl _ | .rdReg _ | .ackEv _ | .clrErrcnt | .getWord
  | .peekWord | .setChecksum | .verifyChecksum | .finalize | .send | .resetOutput | .setTarget _
  | .addWord _ | .create _ | .appendByte _ | .appendWord _ => 0

/-- The request word of an instruction (R80, R83, R84, R96): every reserved bit is 0. -/
def encode (i : Instr) : PortWord :=
  RequestFields.toWord { op := opcode i, rsv := 0, a := fieldA i, b := fieldB i }

/-- The instruction the decoder reads from a request whose bits are `w`, bit 0 the least significant
bit of OP. A request is one 64-bit word (R80): bits at or above `nbits` are 0, and a number that does
not fit the word is no request. -/
def decodeTableWord (nbits w : Nat) : Option Instr :=
  let bits := w % 2 ^ nbits
  if bits < 2 ^ 64 then (decode (BitVec.ofNat 64 bits)).toOption else none

end Sys2Proof
end

