-- ==== Sys2Proof/Machine/Port.lean ====
section
/-! DEFINITION. The host port: taking what the host presents next, and the answer to a request word
that is no instruction (spec/30_encoding.md R80, R85, R86, R88; spec/70_reset_and_hazards.md R291). -/

namespace Sys2Proof.Machine

/-- What the block finds at its host port. -/
inductive PortInput where
  /-- nothing: the block waits -/
  | idle
  /-- RST -/
  | rst
  /-- a request that decodes -/
  | instruction (i : Instr)
  /-- a request that does not -/
  | undecodable (e : DecodeError)
deriving DecidableEq, Repr

/-- The next input, and the state with it taken from the port (log 6). -/
def takeInput (s : State) : PortInput × State :=
  match s.pending with
  | [] => (.idle, s)
  | .rst :: rest => (.rst, { s with pending := rest })
  | .request w :: rest =>
    match decode w with
    | .ok i => (.instruction i, { s with pending := rest })
    | .error e => (.undecodable e, { s with pending := rest })

/-- A request that does not decode answers BAD_COMMAND, DATA = 0 and ACC = 0, and nothing else happens
(R88). -/
def rejectRequest (_ : DecodeError) (s : State) : Host.Outcome State Fault Refusal := finish (s.reply .badCommand)

/-- The request word that stands for the instruction bits `w` (the low `nbits` of them) is what the
host presents next. -/
def State.present (s : State) (nbits w : Nat) : State :=
  { s with pending := .request (BitVec.ofNat 64 (w % 2 ^ nbits)) :: s.pending }

end Sys2Proof.Machine
end

