-- ==== Sys2Proof/Machine/Step.lean ====
section
/-! DEFINITION. One step: one transaction of the host port (spec/60_exceptions.md R276). -/

namespace Sys2Proof.Machine

/-- One step. A configuration that breaks spec/00_scope.md R6 is refused (R276, I24; log 8). Otherwise
the block takes what the host presents: nothing (the state stays), RST (R291), or one request, which
is answered (R65, R88). -/
def step (s : State) : Host.Outcome State Fault Refusal :=
  if s.cfg.valid then
    match takeInput s with
    | (.idle, s') => .next s'
    | (.rst, s') => .next s'.applyRst
    | (.instruction i, s') => exec i s'
    | (.undecodable e, s') => rejectRequest e s'
  else .refused .invalidConfig

/-- The state in which the host presents the request with bits `w` next (log 6). -/
def State.withFetchWord (s : State) (nbits w : Nat) : State := s.present nbits w

end Sys2Proof.Machine
end

