-- ==== Sys2Proof/Machine/HostProcedures.lean ====
section
/-! DEFINITION. The host procedures PROCESS_BUFFER and PROCESS_INPUT (spec/44_control.md R250, R251) and
the pseudo-operations (spec/30_encoding.md R97). They are host software over the block's operations: no
opcode, and no step of the machine (log 14). -/

namespace Sys2Proof.Machine

/-- One FEED issued by a host procedure: the block's state with the response recorded, and the response. -/
def offer (ck : Checksum) (b : Byte) (s : State) : State × Response :=
  let r := feed ck b s
  (r.1.record r.2, r.2)

/-- `if acc == 1: i <- i + 1`: the input left after offering its first byte. -/
def advance (acc : Bool) (b : Byte) (rest : List Byte) : List Byte := if acc then rest else b :: rest

/-- What PROCESS_BUFFER returns, with the block's state. -/
structure BufferRun where
  state : State
  status : Status
  consumed : Nat
deriving DecidableEq, Repr

/-- The loop of PROCESS_BUFFER, at most `fuel` FEEDs (R250). -/
def processBufferLoop (ck : Checksum) : (fuel : Nat) → List Byte → Nat → State → BufferRun
  | 0, _, i, s => { state := s, status := .incomplete, consumed := i }
  | _ + 1, [], i, s => { state := s, status := .incomplete, consumed := i }
  | fuel + 1, b :: rest, i, s =>
    let (s', r) := offer ck b s
    let i' := if r.acc then i + 1 else i
    if r.status = .incomplete then processBufferLoop ck fuel (advance r.acc b rest) i' s'
    else { state := s', status := r.status, consumed := i' }

/-- PROCESS_BUFFER: stops at the first status that is not INCOMPLETE; at most n + 1 FEEDs (R250). -/
def processBuffer (ck : Checksum) (input : List Byte) (s : State) : BufferRun :=
  processBufferLoop ck (input.length + 1) input 0 s

/-- What PROCESS_INPUT returns, with the host's error counter and the block's state. -/
structure InputRun where
  state : State
  completed : Bool
  consumed : Nat
  errCount : Nat
deriving DecidableEq, Repr

/-- After a framing error PROCESS_INPUT issues CLR_HOLD where AUTO is 0 (R251). -/
def clearHoldIfManual (s : State) : State :=
  if s.auto then s else s.releaseHold.record { status := .ok, acc := false, data := 0 }

/-- The loop of PROCESS_INPUT, at most `fuel` FEEDs (R251). -/
def processInputLoop (ck : Checksum) : (fuel : Nat) → List Byte → (i errCount : Nat) → State → InputRun
  | 0, _, i, n, s => { state := s, completed := false, consumed := i, errCount := n }
  | _ + 1, [], i, n, s => { state := s, completed := false, consumed := i, errCount := n }
  | fuel + 1, b :: rest, i, n, s =>
    let (s₁, r) := offer ck b s
    let i' := if r.acc then i + 1 else i
    let (s₂, n') := if r.status.isFraming then (clearHoldIfManual s₁, n + 1) else (s₁, n)
    if r.status = .ok then { state := s₂, completed := true, consumed := i', errCount := n' }
    else if r.status = .held then { state := s₂, completed := false, consumed := i', errCount := n' }
    else processInputLoop ck fuel (advance r.acc b rest) i' n' s₂

/-- PROCESS_INPUT: recovers from framing errors and goes on; at most 2n FEEDs (R251). -/
def processInput (ck : Checksum) (input : List Byte) (errCount : Nat) (s : State) : InputRun :=
  processInputLoop ck (2 * input.length) input 0 errCount s

/-! ### Pseudo-operations (R97) -/

/-- GET_SEQ (command). -/
def pseudoGetSeq : List Instr := [.readWord 4]

/-- GET_CPU_ID (command) and GET_TYPE (telemetry). -/
def pseudoGetCpuIdOrType : List Instr := [.readByte 2]

/-- GET_SOURCE_ID (telemetry). -/
def pseudoGetSourceId : List Instr := [.readByte 3]

/-- GET_PAYLOAD_LEN. -/
def pseudoGetPayloadLen : Kind → List Instr
  | .cmd => [.readByte 3]
  | .tlm => [.readWord 4]

/-- SET_TIME (telemetry): the timestamps of the output packet. -/
def pseudoSetTime (ns sec : DWord) : List Instr :=
  [.writeWord 8 (ns.extractLsb' 0 16), .writeWord 10 (ns.extractLsb' 16 16),
   .writeWord 12 (sec.extractLsb' 0 16), .writeWord 14 (sec.extractLsb' 16 16)]

/-- One byte of FEED_ALL: offered again until ACC = 1 or STATUS = HELD. A byte refused once is offered at
LEN = 0 or under a hold, so two FEEDs are enough (spec/42_command_packet.md R166). -/
def feedUntilTaken (ck : Checksum) (b : Byte) (s : State) : State :=
  let (s', r) := offer ck b s
  if r.acc || decide (r.status = .held) then s' else (offer ck b s').1

/-- FEED_ALL. -/
def feedAll (ck : Checksum) (input : List Byte) (s : State) : State :=
  input.foldl (fun s b => feedUntilTaken ck b s) s

end Sys2Proof.Machine
end

