-- ==== Sys2Proof/Safety.lean ====
section
/-! DEFINITION. What a good state is, in the terms statements use: the invariants of
spec/10_state.md R46, the further rules about registers and output packets, the assumption R122 on a checksum
function, and the opcode table as match and mask. -/

namespace Sys2Proof.Machine

/-- Invariant 4 of R46: what COMPLETED = 1 implies, besides LEN >= H. -/
structure CompletedPacket (ck : Checksum) (s : State) : Prop where
  extent : s.len.toNat = s.expect
  header : s.cfg.headerSize ≤ s.len.toNat
  sync0 : s.readBuf 0 = 0x9A
  sync1 : s.readBuf 1 = 0xC3
  checksum : s.imageChecksum ck = s.storedChecksum
  command : s.cfg.kind = .cmd → (s.readBuf 3).toNat < s.cfg.cmdMaxPayload
  telemetry : s.cfg.kind = .tlm → ∃ e, s.schemaEntry = some e ∧ e.lenOK s.declared = true

/-- Invariant 6 of R46: what holds while a packet is being received. -/
structure ReceivedSoFar (s : State) : Prop where
  sync0 : s.readBuf 0 = 0x9A
  sync1 : 2 ≤ s.len.toNat → s.readBuf 1 = 0xC3
  command : s.cfg.kind = .cmd → 4 ≤ s.len.toNat →
    (s.readBuf 3).toNat < s.cfg.cmdMaxPayload ∧ s.len.toNat < s.expect
  telemetryType : s.cfg.kind = .tlm → 3 ≤ s.len.toNat → s.schemaEntry.isSome = true
  telemetryLength : s.cfg.kind = .tlm → 6 ≤ s.len.toNat →
    (∃ e, s.schemaEntry = some e ∧ e.lenOK s.declared = true) ∧ s.len.toNat < s.expect

/-- The seven invariants of R46, for an instance whose CK is `ck`. -/
structure Invariants (ck : Checksum) (s : State) : Prop where
  /-- 1 -/
  lenBound : s.len.toNat ≤ s.cfg.capacity
  /-- 2 -/
  notBoth : ¬(s.completed = true ∧ s.txopen = true)
  /-- 3 -/
  held : s.hold = true → s.len = 0 ∧ s.completed = false ∧ s.txopen = false
  /-- 4 -/
  done : s.completed = true → CompletedPacket ck s
  /-- 5 (its upper bound is invariant 1) -/
  output : s.txopen = true → s.cfg.headerSize ≤ s.len.toNat
  /-- 6 -/
  receiving : s.txopen = false → s.completed = false → s.len ≠ 0 → ReceivedSoFar s
  /-- 7 -/
  cursor : s.completed = false → s.ridx = 0

/-- Further rules that hold of every run: about single registers, and about the payload of a command output
packet. -/
structure RegisterRules (s : State) : Prop where
  /-- BUF and STAGE are in canonical form, inside their CAP bytes (R23, R24; log 4). -/
  canonical : s.buf.wf s.cfg.capacity = true ∧ s.stage.wf s.cfg.capacity = true
  /-- LASTFEED holds a status FEED returns (R32). -/
  lastfeed : s.lastfeed = .ok ∨ s.lastfeed = .incomplete ∨ s.lastfeed.isFraming = true
  /-- "A KIND = CMD instance keeps TAG at 0" (R37). -/
  commandTag : s.cfg.kind = .cmd → s.tag = 0
  /-- "A KIND = TLM instance never changes" SEQ (R35). -/
  telemetrySeq : s.cfg.kind = .tlm → s.seq = s.cfg.seqInit
  /-- "The bound keeps the payload length strictly below M_c" (R172). -/
  commandPayload : s.cfg.kind = .cmd → s.txopen = true → s.payloadLen < s.cfg.cmdMaxPayload

/-- R122 for one header size `h`: a packet image whose stored checksum is right, with one bit of one
payload byte inverted, has a stored checksum that is wrong. -/
def DetectsPayloadFlip (ck : Checksum) (h : Nat) : Prop :=
  ∀ (x : List Byte) (i k : Nat), h ≤ i → i < x.length → k < 8 →
    ckz ck x = le16 (x.getD 6 0) (x.getD 7 0) →
    ckz ck (x.set i (x.getD i 0 ^^^ BitVec.twoPow 8 k)) ≠ le16 (x.getD 6 0) (x.getD 7 0)

/-- The spec's test checksum CK_TEST: the sum of the bytes modulo 2^16 (spec/95_test_vectors.md section 1).
It is not the hardware's checksum; tests and witnesses use it where a statement is about every CK. -/
def ckTest (x : List Byte) : Word := x.foldl (fun c b => c + b.setWidth 16) 0

/-- The rows of spec/opcode_table.json as (match, mask): a request word is an instance of a row when the
bits under the mask are the match. -/
def opcodeRows : List (PortWord × PortWord) :=
  [(0x00, 0xFFFFFFFFFFFFFFFF), (0x01, 0xFFFFFFFFFFFFFFFF), (0x02, 0xFFFFFFFFFF00FFFF),
   (0x03, 0xFFFFFFFFFFFFFFFF), (0x04, 0xFFFFFFFFFFF8FFFF), (0x05, 0xFFFFFFFF0000FFFF),
   (0x06, 0xFFFFFFFFFFFCFFFF), (0x07, 0xFFFFFFFFFFFFFFFF), (0x08, 0xFFFFFFFFFFFFFFFF),
   (0x09, 0xFFFFFFFFFFFFFFFF), (0x0A, 0x00000000FFFFFFFF), (0x0B, 0x00000000FFFFFFFF),
   (0x0C, 0x00000000FF00FFFF), (0x0D, 0x000000000000FFFF), (0x0E, 0x00000000FF00FFFF),
   (0x0F, 0xFFFFFFFFFFFFFFFF), (0x10, 0xFFFFFFFFFFFFFFFF), (0x11, 0xFFFFFFFFFFFFFFFF),
   (0x12, 0xFFFFFFFFFFFFFFFF), (0x20, 0xFFFFFFFFFFFFFFFF), (0x21, 0xFFFFFFFFFF00FFFF),
   (0x22, 0xFFFFFFFF0000FFFF), (0x23, 0x00000000FFFFFFFF), (0x30, 0xFFFFFFFFFF00FFFF),
   (0x31, 0xFFFFFFFFFF00FFFF), (0x32, 0xFFFFFFFF0000FFFF), (0x33, 0x00000000FFFFFFFF)]

end Sys2Proof.Machine
end

