-- ==== Sys2Proof/Certificates/Slice0/Obligations.lean ====
section
/-! DEFINITION. The statements about FSYNC16, from the numbered rules of spec/. Where one speaks of a
next state `t`, the equation `t = { s with … }` is its frame: every field not named is as in `s`; and
BUF is compared byte by byte, by `readBuf`. `⟨st, acc, data⟩` is the response. -/

open Sys2Proof Sys2Proof.Machine

/-! ### Encoding -/

/-- Request words written out from R83, R84 and R96, at least one of each family, decode to what they stand
for; the fifth is R96's own example. -/
def Obligations.SpecWordsDecode : Prop :=
  decode 0x0000000000000000 = .ok .nop ∧
  decode 0x00000000009A0002 = .ok (.feed 0x9A) ∧
  decode 0x0000000000060004 = .ok (.wrCtrl 6) ∧
  decode 0x00000000000A0005 = .ok (.rdReg 10) ∧
  decode 0x000000081234000D = .ok (.writeWord 8 0x1234) ∧
  decode 0xFFFFFFFF0000000A = .ok (.readByte 0xFFFFFFFF) ∧
  decode 0x0000000000000010 = .ok .verifyChecksum ∧
  decode 0x0000000000000012 = .ok .send ∧
  decode 0x00000000BEEF0022 = .ok (.addWord 0xBEEF) ∧
  decode 0x8000000000000023 = .ok (.checkBuffer 0x80000000) ∧
  decode 0x0000000000100030 = .ok (.create 0x10) ∧
  decode 0x0000001400000033 = .ok (.verifyBuffer 20)

/-- R80, R83, R84: the word of every instruction, with every operand at every value, decodes to that
instruction. -/
def Obligations.DecodeOfEncodeIsIdentity : Prop := ∀ i : Instr, decode (encode i) = .ok i

/-- R83 to R85: a word that decodes is the word of the instruction it decodes to, so no bit of a request
is ignored. -/
def Obligations.EncodeOfDecodeIsIdentity : Prop :=
  ∀ (w : PortWord) (i : Instr), decode w = .ok i → encode i = w

/-- The decoder accepts exactly the words that match a row of spec/opcode_table.json, and no word matches
two rows. -/
def Obligations.DecodeAcceptsExactlyTheOpcodeRows : Prop :=
  (∀ w : PortWord, (∃ i, decode w = .ok i) ↔ ∃ row ∈ opcodeRows, w &&& row.2 = row.1) ∧
  ∀ (w : PortWord) (p q : PortWord × PortWord), p ∈ opcodeRows → q ∈ opcodeRows →
    w &&& p.2 = p.1 → w &&& q.2 = q.1 → p = q

/-- R85, R86: a request whose OP is not in the table, and a request whose OP is defined but that has a
reserved bit set, is answered BAD_COMMAND and changes no state. The bits that a row of the table fixes are OP
and the bits R84 reserves for it. -/
def Obligations.UndecodableRequestAnswersBadCommand : Prop :=
  ∀ (s : State) (w : PortWord) (rest : List HostEvent),
    s.cfg.valid = true → s.pending = .request w :: rest →
    let op := w.toNat % 256
    ((0x13 ≤ op ∧ op ≤ 0x1F) ∨ (0x24 ≤ op ∧ op ≤ 0x2F) ∨ (0x34 ≤ op ∧ op ≤ 0xFF) ∨
      (∃ row ∈ opcodeRows, w &&& 0xFF = row.1 ∧ w &&& row.2 ≠ row.1)) →
    step s = .next ({ s with pending := rest }.record ⟨.badCommand, false, 0⟩)

/-- R87: OP 0x20 to 0x23 on a TLM instance and OP 0x30 to 0x33 on a CMD instance answer BAD_COMMAND and
change no state, whatever the operands and the phase. -/
def Obligations.OtherKindRequestAnswersBadCommand : Prop :=
  ∀ (s : State) (i : Instr),
    (s.cfg.kind = .tlm ∧ 0x20 ≤ (opcode i).toNat ∧ (opcode i).toNat ≤ 0x23) ∨
    (s.cfg.kind = .cmd ∧ 0x30 ≤ (opcode i).toNat ∧ (opcode i).toNat ≤ 0x33) →
    exec i s = .next (s.record ⟨.badCommand, false, 0⟩)

/-! ### The step -/

/-- A step runs the decoded request: when the host presents a word that decodes to `i`, the step is `exec i`
at the state with the word taken from the port. -/
def Obligations.StepRunsDecodedRequest : Prop :=
  ∀ (s : State) (w : PortWord) (rest : List HostEvent) (i : Instr),
    s.cfg.valid = true → s.pending = .request w :: rest → decode w = .ok i →
    step s = exec i { s with pending := rest }

/-- A step without a request. Nothing presented: the state stays (the model's choice, log 6). RST: the
power-on state of the same configuration, with the next draw of BUF and STAGE (R290, R291; logs 5, 7).
A configuration that `Config.valid` rejects: refused. That one that breaks R6 is refused is R276 (marked
derived in the spec; log 8, DEDUCED); that a SCHEMA list whose types do not rise counts as one is the model's
choice (log 8). -/
def Obligations.StepWithoutRequest : Prop :=
  (∀ s : State, s.cfg.valid = true → s.pending = [] → step s = .next s) ∧
  (∀ (s : State) (rest : List HostEvent), s.cfg.valid = true → s.pending = .rst :: rest →
    step s = .next { State.powerOn s.cfg (s.epoch + 1) with pending := rest }) ∧
  (∀ s : State, s.cfg.valid = false → step s = .refused .invalidConfig)

/-- R47: the value of every register after power-on reset; R292: the phase is then HUNT. The bytes of BUF and
STAGE, which R47 leaves unspecified, are the free values of this reset: that a byte is a free value named by
reset number and offset, the same for every configuration and instance, is the model's choice (logs 4 and
16). -/
def Obligations.PowerOnRegisterValues : Prop :=
  ∀ (cfg : Config) (epoch : Nat), let s := State.powerOn cfg epoch
    (∀ k, s.readBuf k = Config.bufDraw epoch k) ∧ (∀ k, s.readStage k = Config.stageDraw epoch k) ∧
    s.len = 0 ∧ s.completed = false ∧ s.hold = false ∧ s.txopen = false ∧ s.altered = false ∧
    s.ridx = 0 ∧ s.lastfeed = .incomplete ∧
    s.ctrl.getLsbD 0 = true ∧ s.ctrl.getLsbD 1 = false ∧ s.ctrl.getLsbD 2 = false ∧
    s.errcnt = 0 ∧ s.seq = cfg.seqInit ∧ s.ev = 0 ∧ s.tag = 0 ∧ s.txout = [] ∧ s.irq = false ∧
    s.phase = some .hunt

/-- R276 (marked derived in the spec): no request makes the block fault, hang or refuse. Every instruction in
every state is answered with exactly one response, and nothing but a request's own answer reaches the host. -/
def Obligations.EveryRequestGetsOneResponse : Prop :=
  (∀ (i : Instr) (s : State), ∃ t r, exec i s = .next t ∧ t.responses = s.responses ++ [r] ∧
    t.pending = s.pending ∧ t.cfg = s.cfg ∧ t.epoch = s.epoch) ∧
  (∀ (s : State) (w : PortWord) (rest : List HostEvent),
    s.cfg.valid = true → s.pending = .request w :: rest →
    ∃ t r, step s = .next t ∧ t.responses = s.responses ++ [r] ∧ t.pending = rest)

/-- R82: the code of each status; R81: the fields of the response word, and ACC is 1 only in the response to
a FEED. -/
def Obligations.ResponseWordAndAcc : Prop :=
  (Status.code .ok = 0 ∧ Status.code .incomplete = 1 ∧ Status.code .noSync = 2 ∧ Status.code .lengthError = 3 ∧
    Status.code .crcError = 4 ∧ Status.code .unknownType = 5 ∧ Status.code .bufferFull = 6 ∧
    Status.code .endOfPacket = 7 ∧ Status.code .notCompleted = 8 ∧ Status.code .noPacket = 9 ∧
    Status.code .held = 10 ∧ Status.code .badCommand = 11 ∧ Status.code .outOfRange = 12) ∧
  (∀ r : Response,
    r.word.extractLsb' 0 4 = r.status.code ∧ r.word.getLsbD 4 = r.acc ∧
    r.word.extractLsb' 5 27 = 0 ∧ r.word.extractLsb' 32 32 = r.data) ∧
  (∀ (i : Instr) (s t : State) (r : Response), exec i s = .next t → t.responses = s.responses ++ [r] →
    r.acc = true → (∃ b, i = .feed b) ∧ r.data = 0)

/-! ### Invariants -/

/-- R46 (marked derived in the spec) holds from power-on reset, of every valid configuration, every draw and
every checksum function; so do the rules about single registers; and so of `State.reset`, whose configuration
is the model's choice (log 2). -/
def Obligations.PowerOnSatisfiesTheInvariants : Prop :=
  (∀ (ck : Checksum) (cfg : Config) (epoch : Nat), cfg.valid = true →
    Invariants ck (State.powerOn cfg epoch) ∧ RegisterRules (State.powerOn cfg epoch)) ∧
  Invariants Config.ck State.reset ∧ RegisterRules State.reset

/-- R46, which the spec marks as derived from its operation rules: every step keeps the seven invariants,
from every state that meets them. -/
def Obligations.StepKeepsTheInvariants : Prop :=
  ∀ s t : State, Invariants Config.ck s → step s = .next t → Invariants Config.ck t

/-- Every step keeps the canonical form of BUF and STAGE, LASTFEED a FEED status (R32), TAG at 0 on a command
instance (R37), SEQ at SEQ_INIT on a telemetry instance (R35), the payload of a command output packet below
M_c (R172), and the configuration (R45). -/
def Obligations.StepKeepsTheRegisterRules : Prop :=
  ∀ s t : State, RegisterRules s → step s = .next t → RegisterRules t ∧ t.cfg = s.cfg

/-- R31, under R46 (marked derived in the spec): RIDX never exceeds floor(declared length / 2). -/
def Obligations.CursorStaysInsideThePayload : Prop :=
  ∀ s t : State, Invariants Config.ck s → s.ridx.toNat ≤ s.declared / 2 → step s = .next t →
    t.ridx.toNat ≤ t.declared / 2

/-- R42 (marked derived in the spec): the table of phases, first match first; and under R46 no other
combination occurs. -/
def Obligations.PhaseIsTotal : Prop :=
  (∀ s : State,
    (s.txopen = true → s.phase = some .tx) ∧
    (s.txopen = false → s.completed = true → s.phase = some .done) ∧
    (s.txopen = false → s.completed = false → s.hold = true → s.phase = some .heldErr) ∧
    (s.txopen = false → s.completed = false → s.hold = false →
      (s.len.toNat = 0 → s.phase = some .hunt) ∧ (s.len.toNat = 1 → s.phase = some .sync1) ∧
      (2 ≤ s.len.toNat → s.len.toNat < s.cfg.headerSize → s.phase = some .header) ∧
      (s.cfg.headerSize ≤ s.len.toNat → s.len.toNat < s.expect → s.phase = some .payload))) ∧
  (∀ (ck : Checksum) (s : State), Invariants ck s → ∃ p, s.phase = some p)

/-! ### Block control -/

/-- R240: NOP, the all-zero request word, answers OK and writes nothing. -/
def Obligations.NopAnswersOk : Prop :=
  encode .nop = 0 ∧ ∀ s : State, exec .nop s = .next (s.record ⟨.ok, false, 0⟩)

/-- R241: RESET clears the packet state, sets LASTFEED to INCOMPLETE, and keeps the rest. -/
def Obligations.SoftResetClearsThePacket : Prop :=
  RequestFields.ofWord (encode .reset) = ⟨0x01, 0, 0, 0⟩ ∧
  ∀ s : State, ∃ t, exec .reset s = .next t ∧
    t = { s with len := 0, completed := false, hold := false, txopen := false, altered := false, ridx := 0,
                 lastfeed := .incomplete, responses := s.responses ++ [⟨.ok, false, 0⟩] } ∧
    t.phase = some .hunt ∧ ∀ k, t.readBuf k = s.readBuf k

/-- R242: CLR_HOLD clears HOLD and nothing else; where R46 holds and HOLD was 1, the FSM is then at HUNT. -/
def Obligations.ClrHoldReleasesTheHold : Prop :=
  RequestFields.ofWord (encode .clrHold) = ⟨0x03, 0, 0, 0⟩ ∧
  ∀ s : State, ∃ t, exec .clrHold s = .next t ∧
    t = { s with hold := false, responses := s.responses ++ [⟨.ok, false, 0⟩] } ∧
    (∀ ck : Checksum, Invariants ck s → s.hold = true → t.phase = some .hunt)

/-- R243: WR_CTRL writes the three bits of CTRL and nothing else (not HOLD), and IRQ follows at once. -/
def Obligations.WrCtrlWritesCtrl : Prop :=
  ∀ v : BitVec 3, RequestFields.ofWord (encode (.wrCtrl v)) = ⟨0x04, 0, v.setWidth 16, 0⟩ ∧
  ∀ s : State, ∃ t, exec (.wrCtrl v) s = .next t ∧
    t = { s with ctrl := v, responses := s.responses ++ [⟨.ok, false, 0⟩] } ∧
    t.irq = ((s.ev.getLsbD 0 && v.getLsbD 1) || (s.ev.getLsbD 1 && v.getLsbD 2))

/-- R245: ACK_EV clears the event bits of its mask, leaves the others, and touches nothing else. -/
def Obligations.AckEvClearsEventBits : Prop :=
  ∀ m : BitVec 2, RequestFields.ofWord (encode (.ackEv m)) = ⟨0x06, 0, m.setWidth 16, 0⟩ ∧
  ∀ s : State, ∃ t, exec (.ackEv m) s = .next t ∧
    t = { s with ev := t.ev, responses := s.responses ++ [⟨.ok, false, 0⟩] } ∧
    (∀ k < 2, t.ev.getLsbD k = (s.ev.getLsbD k && !m.getLsbD k)) ∧
    (m = 3 → t.irq = false)

/-- R246: CLR_ERRCNT clears ERRCNT and nothing else. -/
def Obligations.ClrErrcntClearsTheCounter : Prop :=
  RequestFields.ofWord (encode .clrErrcnt) = ⟨0x07, 0, 0, 0⟩ ∧
  ∀ s : State, exec .clrErrcnt s =
    .next { s with errcnt := 0, responses := s.responses ++ [⟨.ok, false, 0⟩] }

/-- R38, and R39 (marked derived in the spec): EXPECT is the extent once the declared length is known, and
REMAIN what is still to come; in a completed packet nothing is. -/
def Obligations.ExpectAndRemainAreDerived : Prop :=
  (∀ s : State,
    (s.txopen = true → s.expect = 0) ∧
    (s.txopen = false → s.cfg.kind = .cmd →
      s.expect = if 4 ≤ s.len.toNat then 8 + (s.readBuf 3).toNat else 0) ∧
    (s.txopen = false → s.cfg.kind = .tlm →
      s.expect = if 6 ≤ s.len.toNat then 16 + (le16 (s.readBuf 4) (s.readBuf 5)).toNat else 0) ∧
    (s.expect = 0 → s.remain = 0) ∧ (s.expect ≠ 0 → s.remain = s.expect - s.len.toNat)) ∧
  (∀ (ck : Checksum) (s : State), Invariants ck s →
    (s.expect ≠ 0 → s.len.toNat + s.remain = s.expect) ∧ (s.completed = true → s.remain = 0))

/-- R43, R44, R244: RD_REG of 0 to 12 returns the register, zero-extended; a larger number answers
BAD_COMMAND. It changes nothing. -/
def Obligations.RdRegReadsTheRegisterMap : Prop :=
  ∀ r : Word, RequestFields.ofWord (encode (.rdReg r)) = ⟨0x05, 0, r, 0⟩ ∧
  ∀ s : State, s.cfg.valid = true →
    (12 < r.toNat → exec (.rdReg r) s = .next (s.record ⟨.badCommand, false, 0⟩)) ∧
    (r.toNat ≤ 12 → ∃ d : DWord, exec (.rdReg r) s = .next (s.record ⟨.ok, false, d⟩) ∧
      (r.toNat = 0 → d.extractLsb' 0 4 = s.lastfeed.code ∧ d.getLsbD 4 = s.completed ∧
        d.getLsbD 5 = decide (s.len.toNat = 0) ∧ d.getLsbD 6 = s.hold ∧ d.getLsbD 7 = s.txopen ∧
        d.getLsbD 8 = s.altered ∧ d.extractLsb' 9 23 = 0) ∧
      (r.toNat = 1 → d.toNat = s.ctrl.toNat) ∧
      (r.toNat = 2 → d.toNat = s.len.toNat) ∧
      (r.toNat = 3 → d.toNat = s.ridx.toNat) ∧
      (r.toNat = 4 → d.toNat = s.expect) ∧
      (r.toNat = 5 → d.toNat = s.remain) ∧
      (r.toNat = 6 → d = s.errcnt) ∧
      (r.toNat = 7 → d.toNat = s.seq.toNat) ∧
      (r.toNat = 8 → d.toNat = s.ev.toNat) ∧
      (r.toNat = 9 → d = s.tag) ∧
      (r.toNat = 10 → d = if s.cfg.kind = .cmd then 0x00000800 else 0x00001001) ∧
      (r.toNat = 11 → d.toNat = s.cfg.capacity) ∧
      (r.toNat = 12 → d.toNat = s.cfg.maxPayload))

/-- R266: the interrupt level; and it changes only with EV or CTRL. -/
def Obligations.IrqIsALevelOfEventsAndEnables : Prop :=
  (∀ s : State, s.irq = true ↔
    (s.ev.getLsbD 0 = true ∧ s.ctrl.getLsbD 1 = true) ∨ (s.ev.getLsbD 1 = true ∧ s.ctrl.getLsbD 2 = true)) ∧
  (∀ s t : State, step s = .next t → t.irq ≠ s.irq → t.ev ≠ s.ev ∨ t.ctrl ≠ s.ctrl)

/-! ### Buffer accesses and the read cursor -/

/-- R143: READ_BYTE of an offset below CAP returns the byte, in every phase; of another, OUT_OF_RANGE. -/
def Obligations.ReadByteReturnsTheByte : Prop :=
  ∀ off : DWord, RequestFields.ofWord (encode (.readByte off)) = ⟨0x0A, 0, 0, off⟩ ∧
  ∀ s : State,
    (off.toNat < s.cfg.capacity →
      exec (.readByte off) s = .next (s.record ⟨.ok, false, (s.readBuf off.toNat).setWidth 32⟩)) ∧
    (s.cfg.capacity ≤ off.toNat → exec (.readByte off) s = .next (s.record ⟨.outOfRange, false, 0⟩))

/-- R144, R62: READ_WORD returns the two bytes, the lower offset in bits 7:0, at every offset whose word is
inside BUF; otherwise OUT_OF_RANGE, with no wrap of the offset. -/
def Obligations.ReadWordReturnsTwoBytes : Prop :=
  ∀ off : DWord, RequestFields.ofWord (encode (.readWord off)) = ⟨0x0B, 0, 0, off⟩ ∧
  ∀ s : State,
    (off.toNat + 2 ≤ s.cfg.capacity → ∃ d : DWord, exec (.readWord off) s = .next (s.record ⟨.ok, false, d⟩) ∧
      d.toNat = (s.readBuf off.toNat).toNat + 256 * (s.readBuf (off.toNat + 1)).toNat) ∧
    (s.cfg.capacity < off.toNat + 2 → exec (.readWord off) s = .next (s.record ⟨.outOfRange, false, 0⟩))

/-- R145: WRITE_BYTE needs an output packet, then an offset in range; it writes the one byte and sets
ALTERED; LEN stays. -/
def Obligations.WriteByteWritesOneByte : Prop :=
  ∀ (off : DWord) (v : Byte),
  RequestFields.ofWord (encode (.writeByte off v)) = ⟨0x0C, 0, v.setWidth 16, off⟩ ∧
  ∀ s : State,
    (s.txopen = false → exec (.writeByte off v) s = .next (s.record ⟨.noPacket, false, 0⟩)) ∧
    (s.txopen = true → s.cfg.capacity < off.toNat + 1 →
      exec (.writeByte off v) s = .next (s.record ⟨.outOfRange, false, 0⟩)) ∧
    (s.txopen = true → off.toNat + 1 ≤ s.cfg.capacity → ∃ t, exec (.writeByte off v) s = .next t ∧
      t.readBuf off.toNat = v ∧ (∀ k, k ≠ off.toNat → t.readBuf k = s.readBuf k) ∧
      t = { s with buf := t.buf, altered := true, responses := s.responses ++ [⟨.ok, false, 0⟩] })

/-- R146, R60: WRITE_WORD writes the low byte at the offset and the high byte above it. -/
def Obligations.WriteWordWritesTwoBytes : Prop :=
  ∀ (off : DWord) (w : Word),
  RequestFields.ofWord (encode (.writeWord off w)) = ⟨0x0D, 0, w, off⟩ ∧
  ∀ s : State,
    (s.txopen = false → exec (.writeWord off w) s = .next (s.record ⟨.noPacket, false, 0⟩)) ∧
    (s.txopen = true → s.cfg.capacity < off.toNat + 2 →
      exec (.writeWord off w) s = .next (s.record ⟨.outOfRange, false, 0⟩)) ∧
    (s.txopen = true → off.toNat + 2 ≤ s.cfg.capacity → ∃ t, exec (.writeWord off w) s = .next t ∧
      t.readBuf off.toNat = w.extractLsb' 0 8 ∧ t.readBuf (off.toNat + 1) = w.extractLsb' 8 8 ∧
      (∀ k, k ≠ off.toNat → k ≠ off.toNat + 1 → t.readBuf k = s.readBuf k) ∧
      t = { s with buf := t.buf, altered := true, responses := s.responses ++ [⟨.ok, false, 0⟩] })

/-- R147: STAGE_WRITE writes the one byte of STAGE, in every phase, and nothing else. -/
def Obligations.StageWriteWritesOneByte : Prop :=
  ∀ (off : DWord) (v : Byte),
  RequestFields.ofWord (encode (.stageWrite off v)) = ⟨0x0E, 0, v.setWidth 16, off⟩ ∧
  ∀ s : State,
    (s.cfg.capacity < off.toNat + 1 → exec (.stageWrite off v) s = .next (s.record ⟨.outOfRange, false, 0⟩)) ∧
    (off.toNat + 1 ≤ s.cfg.capacity → ∃ t, exec (.stageWrite off v) s = .next t ∧
      t.readStage off.toNat = v ∧ (∀ k, k ≠ off.toNat → t.readStage k = s.readStage k) ∧
      (∀ k, t.readBuf k = s.readBuf k) ∧
      t = { s with stage := t.stage, responses := s.responses ++ [⟨.ok, false, 0⟩] })

/-- R148, R141: GET_WORD needs a completed packet, then two unread declared bytes; it returns the word at
H + 2*RIDX and advances RIDX. -/
def Obligations.GetWordReadsAndAdvances : Prop :=
  RequestFields.ofWord (encode .getWord) = ⟨0x08, 0, 0, 0⟩ ∧
  ∀ s : State,
    let decl := match s.cfg.kind with
      | .cmd => (s.readBuf 3).toNat
      | .tlm => (le16 (s.readBuf 4) (s.readBuf 5)).toNat
    let o := s.cfg.headerSize + 2 * s.ridx.toNat
    (s.completed = false → exec .getWord s = .next (s.record ⟨.notCompleted, false, 0⟩)) ∧
    (s.completed = true → decl < 2 * s.ridx.toNat + 2 →
      exec .getWord s = .next (s.record ⟨.endOfPacket, false, 0⟩)) ∧
    (s.completed = true → 2 * s.ridx.toNat + 2 ≤ decl → ∃ t d, exec .getWord s = .next t ∧
      d = ((le16 (s.readBuf o) (s.readBuf (o + 1))).setWidth 32 : DWord) ∧
      t.ridx.toNat = s.ridx.toNat + 1 ∧ (∀ k, t.readBuf k = s.readBuf k) ∧
      t = { s with ridx := t.ridx, responses := s.responses ++ [⟨.ok, false, d⟩] })

/-- R149: PEEK_WORD answers as GET_WORD does and changes nothing; asked again it answers the same, and a
GET_WORD after it returns the same word. -/
def Obligations.PeekWordChangesNothing : Prop :=
  RequestFields.ofWord (encode .peekWord) = ⟨0x09, 0, 0, 0⟩ ∧
  ∀ s : State, ∃ r,
    exec .peekWord s = .next (s.record r) ∧
    exec .peekWord (s.record r) = .next ((s.record r).record r) ∧
    (∃ t, exec .getWord s = .next t ∧ t.responses = s.responses ++ [r]) ∧
    (s.completed = true → 2 * s.ridx.toNat + 2 ≤ s.declared →
      r = ⟨.ok, false, (s.payloadWord s.ridx.toNat).setWidth 32⟩)

/-! ### The checksum engine -/

/-- R125: SET_CHECKSUM needs a packet; it stores CKz of the packet image in bytes 6 and 7, clears ALTERED and
returns it. -/
def Obligations.SetChecksumStoresTheChecksum : Prop :=
  RequestFields.ofWord (encode .setChecksum) = ⟨0x0F, 0, 0, 0⟩ ∧
  ∀ s : State,
    (s.txopen = false → s.completed = false → exec .setChecksum s = .next (s.record ⟨.noPacket, false, 0⟩)) ∧
    (s.txopen = true ∨ s.completed = true → ∃ t c, exec .setChecksum s = .next t ∧
      c = ckz Config.ck (s.bufPrefix s.len.toNat) ∧
      t.readBuf 6 = lo16 c ∧ t.readBuf 7 = hi16 c ∧ (∀ k, k ≠ 6 → k ≠ 7 → t.readBuf k = s.readBuf k) ∧
      t = { s with buf := t.buf, altered := false, responses := s.responses ++ [⟨.ok, false, c.setWidth 32⟩] } ∧
      (Invariants Config.ck s → s.completed = true → ∀ k, t.readBuf k = s.readBuf k))

/-- R126: VERIFY_CHECKSUM needs a packet; it compares CKz of the packet image with the stored checksum,
returns it, and changes nothing on either outcome; a completed packet always verifies. -/
def Obligations.VerifyChecksumComparesTheChecksum : Prop :=
  RequestFields.ofWord (encode .verifyChecksum) = ⟨0x10, 0, 0, 0⟩ ∧
  ∀ s : State,
    let c := ckz Config.ck (s.bufPrefix s.len.toNat)
    (s.txopen = false → s.completed = false →
      exec .verifyChecksum s = .next (s.record ⟨.noPacket, false, 0⟩)) ∧
    (s.txopen = true ∨ s.completed = true →
      exec .verifyChecksum s = .next (s.record
        ⟨if c = le16 (s.readBuf 6) (s.readBuf 7) then .ok else .crcError, false, c.setWidth 32⟩)) ∧
    (Invariants Config.ck s → s.completed = true →
      exec .verifyChecksum s = .next (s.record ⟨.ok, false, c.setWidth 32⟩))

/-- R127 (marked derived in the spec), for every CK that has R121 and R122: VERIFY_CHECKSUM right after
SET_CHECKSUM, FINALIZE or SEND answers OK; and after WRITE_BYTE has inverted one bit of one payload byte it
answers CRC_ERROR. The instructions are these operations with the instance's CK. -/
def Obligations.ChecksumInvariantHolds : Prop :=
  (∀ s : State, exec .setChecksum s = finish (setChecksum Config.ck s) ∧
    exec .finalize s = finish (finalize Config.ck s) ∧ exec .send s = finish (send Config.ck s) ∧
    exec .verifyChecksum s = finish (verifyChecksum Config.ck s)) ∧
  ∀ (ck : Checksum) (s t : State) (op : Checksum → State → Reply) (d : DWord),
    op = setChecksum ∨ op = finalize ∨ op = send → op ck s = (t, ⟨.ok, false, d⟩) →
    (verifyChecksum ck t).1 = t ∧ (verifyChecksum ck t).2.status = .ok ∧
    (DetectsPayloadFlip ck s.cfg.headerSize → ∀ i k : Nat,
      t.txopen = true → s.cfg.headerSize ≤ i → i < t.len.toNat → i < t.cfg.capacity → k < 8 → t.cfg.valid = true →
      ∃ u, exec (.writeByte (BitVec.ofNat 32 i) (t.readBuf i ^^^ BitVec.twoPow 8 k)) t = .next u ∧
        (verifyChecksum ck u).1 = u ∧ (verifyChecksum ck u).2.status = .crcError)

/-! ### Output packets -/

/-- R170: RESET_OUTPUT, in every phase, writes the eight header bytes with the next sequence id, increments
SEQ modulo 2^16, and opens an output packet of LEN 8. -/
def Obligations.ResetOutputStartsAPacket : Prop :=
  RequestFields.ofWord (encode .resetOutput) = ⟨0x20, 0, 0, 0⟩ ∧
  ∀ s : State, s.cfg.kind = .cmd → ∃ t, exec .resetOutput s = .next t ∧
    t.readBuf 0 = 0x9A ∧ t.readBuf 1 = 0xC3 ∧ t.readBuf 2 = 0 ∧ t.readBuf 3 = 0 ∧
    t.readBuf 4 = s.seq.extractLsb' 0 8 ∧ t.readBuf 5 = s.seq.extractLsb' 8 8 ∧
    t.readBuf 6 = 0 ∧ t.readBuf 7 = 0 ∧ (∀ k, 8 ≤ k → t.readBuf k = s.readBuf k) ∧
    t.seq.toNat = (s.seq.toNat + 1) % 65536 ∧
    t = { s with buf := t.buf, seq := t.seq, len := 8, txopen := true, completed := false, hold := false,
                 ridx := 0, altered := true,
                 responses := s.responses ++ [⟨.ok, false, s.seq.setWidth 32⟩] }

/-- R171: SET_TARGET writes byte 2 of an output packet and sets ALTERED. -/
def Obligations.SetTargetWritesByteTwo : Prop :=
  ∀ id : Byte, RequestFields.ofWord (encode (.setTarget id)) = ⟨0x21, 0, id.setWidth 16, 0⟩ ∧
  ∀ s : State, s.cfg.kind = .cmd →
    (s.txopen = false → exec (.setTarget id) s = .next (s.record ⟨.noPacket, false, 0⟩)) ∧
    (s.txopen = true → ∃ t, exec (.setTarget id) s = .next t ∧
      t.readBuf 2 = id ∧ (∀ k, k ≠ 2 → t.readBuf k = s.readBuf k) ∧
      t = { s with buf := t.buf, altered := true, responses := s.responses ++ [⟨.ok, false, 0⟩] })

/-- R172: ADD_WORD appends a word, low byte first, and keeps the length field; it answers BUFFER_FULL where
the payload would reach M_c, so the payload stays strictly below it. `8 <= LEN` is R46's invariant 5. -/
def Obligations.AddWordAppendsBelowTheBound : Prop :=
  ∀ w : Word, RequestFields.ofWord (encode (.addWord w)) = ⟨0x22, 0, w, 0⟩ ∧
  ∀ s : State, s.cfg.kind = .cmd → s.cfg.valid = true →
    (s.txopen = false → exec (.addWord w) s = .next (s.record ⟨.noPacket, false, 0⟩)) ∧
    (s.txopen = true → 8 ≤ s.len.toNat → s.cfg.cmdMaxPayload ≤ (s.len.toNat - 8) + 2 →
      exec (.addWord w) s = .next (s.record ⟨.bufferFull, false, 0⟩)) ∧
    (s.txopen = true → 8 ≤ s.len.toNat → (s.len.toNat - 8) + 2 < s.cfg.cmdMaxPayload →
      ∃ t, exec (.addWord w) s = .next t ∧
      t.readBuf s.len.toNat = w.extractLsb' 0 8 ∧ t.readBuf (s.len.toNat + 1) = w.extractLsb' 8 8 ∧
      t.len.toNat = s.len.toNat + 2 ∧ (t.readBuf 3).toNat = t.len.toNat - 8 ∧
      t.len.toNat + 1 ≤ s.cfg.capacity ∧
      (∀ k, k ≠ s.len.toNat → k ≠ s.len.toNat + 1 → k ≠ 3 → t.readBuf k = s.readBuf k) ∧
      t = { s with buf := t.buf, len := t.len, altered := true, responses := s.responses ++ [⟨.ok, false, 0⟩] })

/-- R173, R212: FINALIZE rewrites the length field from LEN and stores the checksum of the packet so
changed. A telemetry packet whose type has no entry, or whose payload breaks its length rule, is refused and
nothing is written. `H <= LEN` is R46's invariant 5; `LEN - 8 < 256` holds of every command packet that
RESET_OUTPUT and ADD_WORD build (R172), as StepKeepsTheRegisterRules says. That FINALIZE writes four bytes of
a telemetry packet, where R64's table says 2 or 3, is the model's choice (log 17). -/
def Obligations.FinalizeRewritesLengthAndChecksum : Prop :=
  RequestFields.ofWord (encode .finalize) = ⟨0x11, 0, 0, 0⟩ ∧
  ∀ s : State,
    (s.txopen = false → exec .finalize s = .next (s.record ⟨.noPacket, false, 0⟩)) ∧
    (s.txopen = true → s.cfg.kind = .cmd → 8 ≤ s.len.toNat → s.len.toNat - 8 < 256 →
      ∃ t c, exec .finalize s = .next t ∧ c = ckz Config.ck (t.bufPrefix s.len.toNat) ∧
      (t.readBuf 3).toNat = s.len.toNat - 8 ∧ t.readBuf 6 = lo16 c ∧ t.readBuf 7 = hi16 c ∧
      (∀ k, k ≠ 3 → k ≠ 6 → k ≠ 7 → t.readBuf k = s.readBuf k) ∧
      t = { s with buf := t.buf, altered := false, responses := s.responses ++ [⟨.ok, false, c.setWidth 32⟩] }) ∧
    (s.txopen = true → s.cfg.kind = .tlm → s.cfg.schemaAt (s.readBuf 2) = none →
      exec .finalize s = .next (s.record ⟨.unknownType, false, 0⟩)) ∧
    (∀ e, s.txopen = true → s.cfg.kind = .tlm → 16 ≤ s.len.toNat → s.len.toNat ≤ s.cfg.capacity →
      s.cfg.valid = true → s.cfg.schemaAt (s.readBuf 2) = some e →
      (e.lenOK (s.len.toNat - 16) = false → exec .finalize s = .next (s.record ⟨.lengthError, false, 0⟩)) ∧
      (e.lenOK (s.len.toNat - 16) = true →
        ∃ t c, exec .finalize s = .next t ∧ c = ckz Config.ck (t.bufPrefix s.len.toNat) ∧
        (le16 (t.readBuf 4) (t.readBuf 5)).toNat = s.len.toNat - 16 ∧
        t.readBuf 6 = lo16 c ∧ t.readBuf 7 = hi16 c ∧
        (∀ k, k ≠ 4 → k ≠ 5 → k ≠ 6 → k ≠ 7 → t.readBuf k = s.readBuf k) ∧
        t = { s with buf := t.buf, altered := false,
                     responses := s.responses ++ [⟨.ok, false, c.setWidth 32⟩] }))

/-- R174: SEND answers what FINALIZE answers where FINALIZE does not answer OK, and changes nothing then;
otherwise it leaves what FINALIZE leaves, emits BUF[0..LEN) after it and returns the number of bytes. -/
def Obligations.SendFinalizesAndEmits : Prop :=
  RequestFields.ofWord (encode .send) = ⟨0x12, 0, 0, 0⟩ ∧
  ∀ s : State, ∃ f r, exec .finalize s = .next f ∧ f.responses = s.responses ++ [r] ∧
    (r.status ≠ .ok → exec .send s = .next (s.record r) ∧ f = s.record r) ∧
    (r.status = .ok → exec .send s =
      .next { f with txout := s.txout ++ f.bufPrefix s.len.toNat,
                     responses := s.responses ++ [⟨.ok, false, s.len.setWidth 32⟩] }) ∧
    (s.txopen = false → r = ⟨.noPacket, false, 0⟩) ∧
    (s.txopen = true → s.cfg.kind = .cmd → r.status = .ok) ∧
    (s.txopen = true → s.cfg.kind = .tlm →
      (∃ e, s.cfg.schemaAt (s.readBuf 2) = some e ∧ e.lenOK (s.len.toNat - 16) = true) → r.status = .ok)

/-- R169: CHECK_BUFFER makes its checks on STAGE[0..2W) in order; a failed one answers its status and changes
nothing at all; a valid packet becomes the completed packet in BUF. -/
def Obligations.CheckBufferAcceptsAValidPacket : Prop :=
  ∀ words : DWord, RequestFields.ofWord (encode (.checkBuffer words)) = ⟨0x23, 0, 0, words⟩ ∧
  ∀ s : State, s.cfg.kind = .cmd → s.cfg.valid = true →
    let n := 2 * words.toNat
    let p := (s.readStage 3).toNat
    let answers (st : Status) : Prop := exec (.checkBuffer words) s = .next (s.record ⟨st, false, 0⟩)
    (s.cfg.capacity < n ∨ n < 8 → answers .lengthError) ∧
    (8 ≤ n → n ≤ s.cfg.capacity →
      (s.readStage 0 ≠ 0x9A ∨ s.readStage 1 ≠ 0xC3 → answers .noSync) ∧
      (s.readStage 0 = 0x9A → s.readStage 1 = 0xC3 →
        (s.cfg.cmdMaxPayload ≤ p ∨ 8 + p ≠ n → answers .lengthError) ∧
        (p < s.cfg.cmdMaxPayload → 8 + p = n →
          (ckz Config.ck (s.stagePrefix n) ≠ le16 (s.readStage 6) (s.readStage 7) → answers .crcError) ∧
          (ckz Config.ck (s.stagePrefix n) = le16 (s.readStage 6) (s.readStage 7) →
            ∃ t, exec (.checkBuffer words) s = .next t ∧
            (∀ k < n, t.readBuf k = s.readStage k) ∧ (∀ k, n ≤ k → t.readBuf k = s.readBuf k) ∧
            t.len.toNat = n ∧ t.ev.getLsbD 0 = true ∧ t.ev.getLsbD 1 = s.ev.getLsbD 1 ∧
            t = { s with buf := t.buf, len := t.len, completed := true, txopen := false, hold := false,
                         ridx := 0, altered := false, ev := t.ev,
                         responses := s.responses ++ [⟨.ok, false, 0⟩] }))))

/-- R209: CREATE of a registered type, in every phase, writes the sixteen header bytes and opens an output
packet of LEN 16; of another type it answers UNKNOWN_TYPE and changes nothing. -/
def Obligations.CreateStartsAPacket : Prop :=
  ∀ ty : Byte, RequestFields.ofWord (encode (.create ty)) = ⟨0x30, 0, ty.setWidth 16, 0⟩ ∧
  ∀ s : State, s.cfg.kind = .tlm →
    (s.cfg.schemaAt ty = none → exec (.create ty) s = .next (s.record ⟨.unknownType, false, 0⟩)) ∧
    (∀ e, s.cfg.schemaAt ty = some e → ∃ t, exec (.create ty) s = .next t ∧
      t.readBuf 0 = 0x9A ∧ t.readBuf 1 = 0xC3 ∧ t.readBuf 2 = ty ∧ t.readBuf 3 = s.cfg.sourceId ∧
      (∀ k, 4 ≤ k → k < 16 → t.readBuf k = 0) ∧ (∀ k, 16 ≤ k → t.readBuf k = s.readBuf k) ∧
      t = { s with buf := t.buf, len := 16, txopen := true, completed := false, hold := false, ridx := 0,
                   altered := true, responses := s.responses ++ [⟨.ok, false, 0⟩] })

/-- R210: APPEND_BYTE appends one byte while the payload is below the type's length, and the length field
follows; the checks are NO_PACKET, UNKNOWN_TYPE, BUFFER_FULL. `16 <= LEN` is R46's invariant 5. -/
def Obligations.AppendByteAppendsUpToTheLength : Prop :=
  ∀ v : Byte, RequestFields.ofWord (encode (.appendByte v)) = ⟨0x31, 0, v.setWidth 16, 0⟩ ∧
  ∀ s : State, s.cfg.kind = .tlm → s.cfg.valid = true →
    (s.txopen = false → exec (.appendByte v) s = .next (s.record ⟨.noPacket, false, 0⟩)) ∧
    (s.txopen = true → s.cfg.schemaAt (s.readBuf 2) = none →
      exec (.appendByte v) s = .next (s.record ⟨.unknownType, false, 0⟩)) ∧
    (∀ e, s.txopen = true → 16 ≤ s.len.toNat → s.cfg.schemaAt (s.readBuf 2) = some e →
      (e.len < (s.len.toNat - 16) + 1 → exec (.appendByte v) s = .next (s.record ⟨.bufferFull, false, 0⟩)) ∧
      ((s.len.toNat - 16) + 1 ≤ e.len → ∃ t, exec (.appendByte v) s = .next t ∧
        t.readBuf s.len.toNat = v ∧ t.len.toNat = s.len.toNat + 1 ∧
        (le16 (t.readBuf 4) (t.readBuf 5)).toNat = t.len.toNat - 16 ∧
        (∀ k, k ≠ s.len.toNat → k ≠ 4 → k ≠ 5 → t.readBuf k = s.readBuf k) ∧
        t = { s with buf := t.buf, len := t.len, altered := true,
                     responses := s.responses ++ [⟨.ok, false, 0⟩] }))

/-- R211: APPEND_WORD appends one word, low byte first, where two bytes of room are left; otherwise it
writes nothing. -/
def Obligations.AppendWordAppendsUpToTheLength : Prop :=
  ∀ w : Word, RequestFields.ofWord (encode (.appendWord w)) = ⟨0x32, 0, w, 0⟩ ∧
  ∀ s : State, s.cfg.kind = .tlm → s.cfg.valid = true →
    (s.txopen = false → exec (.appendWord w) s = .next (s.record ⟨.noPacket, false, 0⟩)) ∧
    (s.txopen = true → s.cfg.schemaAt (s.readBuf 2) = none →
      exec (.appendWord w) s = .next (s.record ⟨.unknownType, false, 0⟩)) ∧
    (∀ e, s.txopen = true → 16 ≤ s.len.toNat → s.cfg.schemaAt (s.readBuf 2) = some e →
      (e.len < (s.len.toNat - 16) + 2 → exec (.appendWord w) s = .next (s.record ⟨.bufferFull, false, 0⟩)) ∧
      ((s.len.toNat - 16) + 2 ≤ e.len → ∃ t, exec (.appendWord w) s = .next t ∧
        t.readBuf s.len.toNat = w.extractLsb' 0 8 ∧ t.readBuf (s.len.toNat + 1) = w.extractLsb' 8 8 ∧
        t.len.toNat = s.len.toNat + 2 ∧ (le16 (t.readBuf 4) (t.readBuf 5)).toNat = t.len.toNat - 16 ∧
        (∀ k, k ≠ s.len.toNat → k ≠ s.len.toNat + 1 → k ≠ 4 → k ≠ 5 → t.readBuf k = s.readBuf k) ∧
        t = { s with buf := t.buf, len := t.len, altered := true,
                     responses := s.responses ++ [⟨.ok, false, 0⟩] }))

/-- R208, R206: VERIFY_BUFFER answers the verdict of its checks in order and changes no state on any
outcome. -/
def Obligations.VerifyBufferAnswersAVerdict : Prop :=
  ∀ bytes : DWord, RequestFields.ofWord (encode (.verifyBuffer bytes)) = ⟨0x33, 0, 0, bytes⟩ ∧
  ∀ s : State, s.cfg.kind = .tlm →
    let n := bytes.toNat
    let l := (le16 (s.readStage 4) (s.readStage 5)).toNat
    let answers (st : Status) : Prop := exec (.verifyBuffer bytes) s = .next (s.record ⟨st, false, 0⟩)
    (s.cfg.capacity < n ∨ n < 16 → answers .lengthError) ∧
    (16 ≤ n → n ≤ s.cfg.capacity →
      (s.readStage 0 ≠ 0x9A ∨ s.readStage 1 ≠ 0xC3 → answers .noSync) ∧
      (s.readStage 0 = 0x9A → s.readStage 1 = 0xC3 →
        (s.cfg.schemaAt (s.readStage 2) = none → answers .unknownType) ∧
        (∀ e, s.cfg.schemaAt (s.readStage 2) = some e →
          ((e.isVar = false ∧ l ≠ e.len) ∨ (e.isVar = true ∧ e.len < l) ∨ 16 + l ≠ n → answers .lengthError) ∧
          ((e.isVar = false → l = e.len) → (e.isVar = true → l ≤ e.len) → 16 + l = n →
            answers (if ckz Config.ck (s.stagePrefix n) = le16 (s.readStage 6) (s.readStage 7)
              then .ok else .crcError)))))

/-! ### FEED -/

/-- R161, R200: at LEN = 0 the byte 0x9A starts a sync; any other byte is consumed and dropped, with no error
of any kind. -/
def Obligations.FeedHuntsForTheFirstSyncByte : Prop :=
  ∀ (b : Byte) (s : State), s.txopen = false → s.completed = false → s.hold = false → s.len = 0 →
    (b = 0x9A → ∃ t, exec (.feed b) s = .next t ∧ t.readBuf 0 = 0x9A ∧
      (∀ k, k ≠ 0 → t.readBuf k = s.readBuf k) ∧
      t = { s with buf := t.buf, len := 1, lastfeed := .incomplete,
                   responses := s.responses ++ [⟨.incomplete, true, 0⟩] }) ∧
    (b ≠ 0x9A → exec (.feed b) s =
      .next { s with lastfeed := .incomplete, responses := s.responses ++ [⟨.incomplete, true, 0⟩] })

/-- R162, R200, R167: at LEN = 1 the byte 0xC3 completes the sync; any other byte is NOSYNC, is not
consumed, and takes a framing error. -/
def Obligations.FeedChecksTheSecondSyncByte : Prop :=
  ∀ (b : Byte) (s : State), s.txopen = false → s.completed = false → s.hold = false → s.len = 1 →
    (b = 0xC3 → ∃ t, exec (.feed b) s = .next t ∧ t.readBuf 1 = 0xC3 ∧
      (∀ k, k ≠ 1 → t.readBuf k = s.readBuf k) ∧
      t = { s with buf := t.buf, len := 2, lastfeed := .incomplete,
                   responses := s.responses ++ [⟨.incomplete, true, 0⟩] }) ∧
    (b ≠ 0xC3 → exec (.feed b) s =
      .next { s with len := 0, lastfeed := .noSync, errcnt := s.errcnt + 1, ev := s.ev ||| 2,
                     hold := !s.ctrl.getLsbD 0, responses := s.responses ++ [⟨.noSync, false, 0⟩] })

/-- R163, R164: a command packet takes every target id; a length byte at or above M_c is LENGTH_ERROR and is
not consumed, a smaller one is taken. -/
def Obligations.FeedTakesTheCommandHeader : Prop :=
  ∀ (b : Byte) (s : State), s.cfg.kind = .cmd → s.txopen = false → s.completed = false → s.hold = false →
    (s.len = 2 → ∃ t, exec (.feed b) s = .next t ∧ t.readBuf 2 = b ∧
      (∀ k, k ≠ 2 → t.readBuf k = s.readBuf k) ∧
      t = { s with buf := t.buf, len := 3, lastfeed := .incomplete,
                   responses := s.responses ++ [⟨.incomplete, true, 0⟩] }) ∧
    (s.len = 3 → b.toNat < s.cfg.cmdMaxPayload → ∃ t, exec (.feed b) s = .next t ∧ t.readBuf 3 = b ∧
      (∀ k, k ≠ 3 → t.readBuf k = s.readBuf k) ∧ t.expect = 8 + b.toNat ∧
      t = { s with buf := t.buf, len := 4, lastfeed := .incomplete,
                   responses := s.responses ++ [⟨.incomplete, true, 0⟩] }) ∧
    (s.len = 3 → s.cfg.cmdMaxPayload ≤ b.toNat → exec (.feed b) s =
      .next { s with len := 0, lastfeed := .lengthError, errcnt := s.errcnt + 1, ev := s.ev ||| 2,
                     hold := !s.ctrl.getLsbD 0, responses := s.responses ++ [⟨.lengthError, false, 0⟩] })

/-- R165, R168: the rest of a command packet is stored as it comes and consumed; on the last byte the
checksum of the whole image decides between a completed packet and CRC_ERROR. -/
def Obligations.FeedCompletesACommandPacket : Prop :=
  ∀ (b : Byte) (s : State), s.cfg.kind = .cmd → s.txopen = false → s.completed = false → s.hold = false →
    4 ≤ s.len.toNat → s.len.toNat < 8 + (s.readBuf 3).toNat → (s.readBuf 3).toNat < s.cfg.cmdMaxPayload →
    let x := s.bufPrefix s.len.toNat ++ [b]
    ∃ t, exec (.feed b) s = .next t ∧
      t.readBuf s.len.toNat = b ∧ (∀ k, k ≠ s.len.toNat → t.readBuf k = s.readBuf k) ∧
      (s.len.toNat + 1 < 8 + (s.readBuf 3).toNat →
        t = { s with buf := t.buf, len := s.len + 1, lastfeed := .incomplete,
                     responses := s.responses ++ [⟨.incomplete, true, 0⟩] }) ∧
      (s.len.toNat + 1 = 8 + (s.readBuf 3).toNat →
        t = if ckz Config.ck x = le16 (x.getD 6 0) (x.getD 7 0) then
            { s with buf := t.buf, len := s.len + 1, lastfeed := .ok, completed := true, ridx := 0,
                     ev := s.ev ||| 1, responses := s.responses ++ [⟨.ok, true, 0⟩] }
          else
            { s with buf := t.buf, len := 0, lastfeed := .crcError, errcnt := s.errcnt + 1, ev := s.ev ||| 2,
                     hold := !s.ctrl.getLsbD 0, responses := s.responses ++ [⟨.crcError, true, 0⟩] })

/-- R201 to R204, R206: a telemetry packet's type must be registered, its source id is free, and its length
is checked against the type on byte 5; a refused byte is not consumed. -/
def Obligations.FeedTakesTheTelemetryHeader : Prop :=
  ∀ (b : Byte) (s : State), s.cfg.kind = .tlm → s.txopen = false → s.completed = false → s.hold = false →
    let takes (k : Nat) : Prop := ∃ t, exec (.feed b) s = .next t ∧ t.readBuf k = b ∧
      (∀ j, j ≠ k → t.readBuf j = s.readBuf j) ∧ t.len.toNat = k + 1 ∧
      t = { s with buf := t.buf, len := t.len, lastfeed := .incomplete,
                   responses := s.responses ++ [⟨.incomplete, true, 0⟩] }
    let refuses (st : Status) : Prop := exec (.feed b) s =
      .next { s with len := 0, lastfeed := st, errcnt := s.errcnt + 1, ev := s.ev ||| 2,
                     hold := !s.ctrl.getLsbD 0, responses := s.responses ++ [⟨st, false, 0⟩] }
    let l := (le16 (s.readBuf 4) b).toNat
    (s.len = 2 → s.cfg.schemaAt b = none → refuses .unknownType) ∧
    (s.len = 2 → s.cfg.schemaAt b ≠ none → takes 2) ∧
    (s.len = 3 → takes 3) ∧
    (s.len = 4 → takes 4) ∧
    (∀ e, s.len = 5 → s.cfg.schemaAt (s.readBuf 2) = some e →
      ((e.isVar = false ∧ l ≠ e.len) ∨ (e.isVar = true ∧ e.len < l) → refuses .lengthError) ∧
      ((e.isVar = false ∧ l = e.len) ∨ (e.isVar = true ∧ l ≤ e.len) → takes 5))

/-- R205, R168, R207: the rest of a telemetry packet is stored as it comes and consumed; on the last byte
the checksum decides between a completed packet, with TAG loaded from the type's entry, and CRC_ERROR. -/
def Obligations.FeedCompletesATelemetryPacket : Prop :=
  ∀ (b : Byte) (s : State) (e : SchemaEntry), s.cfg.kind = .tlm → s.cfg.valid = true →
    s.txopen = false → s.completed = false → s.hold = false →
    let l := (le16 (s.readBuf 4) (s.readBuf 5)).toNat
    6 ≤ s.len.toNat → s.len.toNat < 16 + l → s.cfg.schemaAt (s.readBuf 2) = some e → e.lenOK l = true →
    let x := s.bufPrefix s.len.toNat ++ [b]
    ∃ t, exec (.feed b) s = .next t ∧
      t.readBuf s.len.toNat = b ∧ (∀ k, k ≠ s.len.toNat → t.readBuf k = s.readBuf k) ∧
      (s.len.toNat + 1 < 16 + l →
        t = { s with buf := t.buf, len := s.len + 1, lastfeed := .incomplete,
                     responses := s.responses ++ [⟨.incomplete, true, 0⟩] }) ∧
      (s.len.toNat + 1 = 16 + l →
        t = if ckz Config.ck x = le16 (x.getD 6 0) (x.getD 7 0) then
            { s with buf := t.buf, len := s.len + 1, lastfeed := .ok, completed := true, ridx := 0,
                     ev := s.ev ||| 1, tag := e.tag, responses := s.responses ++ [⟨.ok, true, 0⟩] }
          else
            { s with buf := t.buf, len := 0, lastfeed := .crcError, errcnt := s.errcnt + 1, ev := s.ev ||| 2,
                     hold := !s.ctrl.getLsbD 0, responses := s.responses ++ [⟨.crcError, true, 0⟩] })

/-- R160, R268, and R264 (marked derived in the spec): whatever the state, a FEED has one of four outcomes:
HELD with no change, exactly while an output packet, a completed packet or a hold is there; one more byte, or
a byte dropped while hunting (R161), with no event; a framing error with exactly the effects of R268; a
completion, which loads TAG on a telemetry instance and keeps it on a command one (R37, R168). A completed
telemetry packet has a type with an entry (R46); that TAG stays where it has none is the model's choice
(log 10). -/
def Obligations.FeedHasOneOfFourOutcomes : Prop :=
  ∀ b : Byte, RequestFields.ofWord (encode (.feed b)) = ⟨0x02, 0, b.setWidth 16, 0⟩ ∧
  ∀ s : State, ∃ t r, exec (.feed b) s = .next t ∧ t.responses = s.responses ++ [r] ∧
    (∀ k, k ≠ s.len.toNat → t.readBuf k = s.readBuf k) ∧
    (s.txopen = true ∨ s.completed = true ∨ s.hold = true ↔ r.status = .held) ∧
    ((r = ⟨.held, false, 0⟩ ∧ t = s.record r) ∨
     (r = ⟨.incomplete, true, 0⟩ ∧
       (t.len = s.len + 1 ∨ (s.len = 0 ∧ b ≠ 0x9A ∧ t.len = s.len ∧ t.buf = s.buf)) ∧
       t = { s with buf := t.buf, len := t.len, lastfeed := .incomplete, responses := t.responses }) ∨
     (r.status.isFraming = true ∧
       t = { s with buf := t.buf, len := 0, lastfeed := r.status, errcnt := s.errcnt + 1, ev := s.ev ||| 2,
                    hold := !s.ctrl.getLsbD 0, responses := t.responses }) ∨
     (r = ⟨.ok, true, 0⟩ ∧
       t = { s with buf := t.buf, len := s.len + 1, lastfeed := .ok, completed := true, ridx := 0,
                    ev := s.ev ||| 1, responses := t.responses,
                    tag := match s.cfg.kind, s.cfg.schemaAt (t.readBuf 2) with
                      | .tlm, some e => e.tag
                      | .tlm, none => s.tag
                      | .cmd, _ => s.tag }))

/-- R166 (marked derived in the spec), R296: a byte that was refused with a framing error and not consumed is
consumed by the next FEED where AUTO = 1; where AUTO = 0 that FEED is HELD, and the byte is consumed after a
CLR_HOLD. -/
def Obligations.RefusedByteIsConsumedWhenOfferedAgain : Prop :=
  ∀ (b : Byte) (s t : State) (st : Status), st.isFraming = true →
    exec (.feed b) s = .next t → t.responses = s.responses ++ [⟨st, false, 0⟩] →
    (s.ctrl.getLsbD 0 = true → ∃ u, exec (.feed b) t = .next u ∧
      u.responses = t.responses ++ [⟨.incomplete, true, 0⟩]) ∧
    (s.ctrl.getLsbD 0 = false →
      exec (.feed b) t = .next (t.record ⟨.held, false, 0⟩) ∧
      ∃ u v, exec .clrHold t = .next u ∧ exec (.feed b) u = .next v ∧
        v.responses = u.responses ++ [⟨.incomplete, true, 0⟩])

/-! ### Rules of the whole machine -/

/-- R262: a transaction that returns a non-OK status, other than FEED's own INCOMPLETE and framing errors,
writes nothing. -/
def Obligations.ErrorStatusesChangeNothing : Prop :=
  ∀ (i : Instr) (s t : State) (r : Response), exec i s = .next t → t.responses = s.responses ++ [r] →
    r.status ≠ .ok → ((∃ b, i = .feed b) → r.status = .held) → t = s.record r

/-- R66 (marked derived in the spec): NOP, RD_REG, READ_BYTE, READ_WORD, PEEK_WORD, VERIFY_CHECKSUM and
VERIFY_BUFFER never change state, so any of them can be repeated with the same result; nor does a CHECK_BUFFER
that fails. -/
def Obligations.ReadOnlyOperationsAreIdempotent : Prop :=
  (∀ (i : Instr) (s : State),
    (i = .nop ∨ (∃ r, i = .rdReg r) ∨ (∃ o, i = .readByte o) ∨ (∃ o, i = .readWord o) ∨ i = .peekWord ∨
      i = .verifyChecksum ∨ (∃ n, i = .verifyBuffer n)) →
    ∃ r, exec i s = .next (s.record r) ∧ exec i (s.record r) = .next ((s.record r).record r)) ∧
  (∀ (n : DWord) (s t : State) (r : Response), exec (.checkBuffer n) s = .next t →
    t.responses = s.responses ++ [r] → r.status ≠ .ok → t = s.record r)

/-- R23 to R26, R28 to R37, R70, R174, R265: which operations write what. A byte of BUF changes only by an
operation of R23's list, a byte of STAGE only by STAGE_WRITE, ERRCNT only by a FEED's framing error or
CLR_ERRCNT, SEQ only by RESET_OUTPUT, TAG only by a FEED, CTRL only by WR_CTRL, TXOUT only by SEND; an event
bit is set only by its sources and cleared only by ACK_EV; LEN, RIDX and LASTFEED change, and COMPLETED, HOLD,
TXOPEN and ALTERED are set and are cleared, only by the operations whose rules say so. -/
def Obligations.OnlyTheListedOperationsWrite : Prop :=
  ∀ (i : Instr) (s t : State), exec i s = .next t →
    ((∃ k, t.readBuf k ≠ s.readBuf k) → (∃ b, i = .feed b) ∨ (∃ n, i = .checkBuffer n) ∨ i = .resetOutput ∨
      (∃ d, i = .setTarget d) ∨ (∃ w, i = .addWord w) ∨ (∃ ty, i = .create ty) ∨ (∃ v, i = .appendByte v) ∨
      (∃ w, i = .appendWord w) ∨ (∃ o v, i = .writeByte o v) ∨ (∃ o w, i = .writeWord o w) ∨
      i = .setChecksum ∨ i = .finalize ∨ i = .send) ∧
    ((∃ k, t.readStage k ≠ s.readStage k) → ∃ o v, i = .stageWrite o v) ∧
    (t.errcnt ≠ s.errcnt → i = .clrErrcnt ∨ ((∃ b, i = .feed b) ∧ t.lastfeed.isFraming = true)) ∧
    (t.seq ≠ s.seq → i = .resetOutput) ∧
    (t.tag ≠ s.tag → ∃ b, i = .feed b) ∧
    (t.ctrl ≠ s.ctrl → ∃ v, i = .wrCtrl v) ∧
    (t.txout ≠ s.txout → i = .send) ∧
    (s.ev.getLsbD 0 = false → t.ev.getLsbD 0 = true → (∃ b, i = .feed b) ∨ ∃ n, i = .checkBuffer n) ∧
    (s.ev.getLsbD 1 = false → t.ev.getLsbD 1 = true → ∃ b, i = .feed b) ∧
    (∀ k < 2, s.ev.getLsbD k = true → t.ev.getLsbD k = false → ∃ m, i = .ackEv m) ∧
    (t.len ≠ s.len → (∃ b, i = .feed b) ∨ i = .reset ∨ (∃ n, i = .checkBuffer n) ∨ i = .resetOutput ∨
      (∃ w, i = .addWord w) ∨ (∃ ty, i = .create ty) ∨ (∃ v, i = .appendByte v) ∨ ∃ w, i = .appendWord w) ∧
    (t.ridx ≠ s.ridx → i = .getWord ∨ i = .reset ∨ (∃ b, i = .feed b) ∨ (∃ n, i = .checkBuffer n) ∨
      i = .resetOutput ∨ ∃ ty, i = .create ty) ∧
    (t.lastfeed ≠ s.lastfeed → (∃ b, i = .feed b) ∨ i = .reset) ∧
    (s.completed = false → t.completed = true → (∃ b, i = .feed b) ∨ ∃ n, i = .checkBuffer n) ∧
    (s.completed = true → t.completed = false → i = .reset ∨ i = .resetOutput ∨ ∃ ty, i = .create ty) ∧
    (s.hold = false → t.hold = true →
      (∃ b, i = .feed b) ∧ t.lastfeed.isFraming = true ∧ s.ctrl.getLsbD 0 = false) ∧
    (s.hold = true → t.hold = false → i = .clrHold ∨ i = .reset ∨ i = .resetOutput ∨ (∃ ty, i = .create ty) ∨
      ∃ n, i = .checkBuffer n) ∧
    (s.txopen = false → t.txopen = true → i = .resetOutput ∨ ∃ ty, i = .create ty) ∧
    (s.txopen = true → t.txopen = false → i = .reset ∨ ∃ n, i = .checkBuffer n) ∧
    (s.altered = false → t.altered = true → i = .resetOutput ∨ (∃ ty, i = .create ty) ∨
      (∃ d, i = .setTarget d) ∨ (∃ w, i = .addWord w) ∨ (∃ v, i = .appendByte v) ∨ (∃ w, i = .appendWord w) ∨
      (∃ o v, i = .writeByte o v) ∨ ∃ o w, i = .writeWord o w) ∧
    (s.altered = true → t.altered = false → i = .setChecksum ∨ i = .finalize ∨ i = .send ∨ i = .reset ∨
      ∃ n, i = .checkBuffer n)

/-- R214 (marked derived in the spec), R30: the bytes SEND emits do not depend on whether SET_CHECKSUM or
FINALIZE ran before it, nor on ALTERED, nor on the old checksum bytes. -/
def Obligations.LazyAndEagerChecksumsAgree : Prop :=
  ∀ (s : State) (i : Instr), i = .setChecksum ∨ i = .finalize →
    ∃ t u v, exec i s = .next t ∧ exec .send s = .next u ∧ exec .send t = .next v ∧ v.txout = u.txout ∧
    (∀ (a : Bool) (c : Word), ∃ w, exec .send { s.setBufWord 6 c with altered := a } = .next w ∧
      w.txout = u.txout)

/-- R215 (marked derived in the spec): a telemetry packet never completes by FEED and never passes
VERIFY_BUFFER unless its declared length obeys its type's rule: equal to the length of a fixed type, at most
that of a variable one. -/
def Obligations.TelemetryLengthIsEnforced : Prop :=
  (∀ (b : Byte) (s t : State), s.cfg.kind = .tlm → Invariants Config.ck s → s.completed = false →
    exec (.feed b) s = .next t → t.completed = true →
    ∃ e, t.cfg.schemaAt (t.readBuf 2) = some e ∧
      (e.isVar = false → (le16 (t.readBuf 4) (t.readBuf 5)).toNat = e.len) ∧
      (e.isVar = true → (le16 (t.readBuf 4) (t.readBuf 5)).toNat ≤ e.len)) ∧
  (∀ (n : DWord) (s t : State), s.cfg.kind = .tlm → exec (.verifyBuffer n) s = .next t →
    t.responses = s.responses ++ [⟨.ok, false, 0⟩] →
    ∃ e, s.cfg.schemaAt (s.readStage 2) = some e ∧
      (e.isVar = false → (le16 (s.readStage 4) (s.readStage 5)).toNat = e.len) ∧
      (e.isVar = true → (le16 (s.readStage 4) (s.readStage 5)).toNat ≤ e.len))

/-- R175 (marked derived in the spec): split-read idempotence of PROCESS_BUFFER and of PROCESS_INPUT. Where
the first call takes all its bytes and the packet is not yet complete, the two calls leave the block, with the
record of every FEED's response, where one call on all the bytes leaves it; where the first call stops, one
call on all the bytes stops there too. The procedures are host software, written with the bounds of R250 and
R251 as fuel (log 14, DEDUCED). -/
def Obligations.SplitReadsAgree : Prop :=
  ∀ (ck : Checksum) (xs ys : List Byte) (s : State),
    (let r := processBuffer ck xs s
     let u := processBuffer ck ys r.state
     (r.status = .incomplete →
       processBuffer ck (xs ++ ys) s = { u with consumed := xs.length + u.consumed }) ∧
     (r.status ≠ .incomplete → processBuffer ck (xs ++ ys) s = r)) ∧
    (∀ n : Nat,
      let r := processInput ck xs n s
      let u := processInput ck ys r.errCount r.state
      (r.completed = false → r.consumed = xs.length →
        processInput ck (xs ++ ys) n s = { u with consumed := xs.length + u.consumed }) ∧
      (r.completed = true ∨ r.consumed < xs.length → processInput ck (xs ++ ys) n s = r))

/-- From what R172 and R212 say of the packets FSYNC16 builds, and R250: every packet SEND emits is one FEED
accepts. Fed to an instance of the same configuration that is hunting, the emitted bytes complete a packet on
the last byte, and BUF holds them. The sync word must be intact (WRITE_BYTE can break it, R145), and a command
payload below M_c (R172, as StepKeepsTheRegisterRules says). SEND rewrites a telemetry packet's length field
(log 17). PROCESS_BUFFER is host software, written with the bound of R250 as fuel (log 14, DEDUCED). -/
def Obligations.EmittedPacketsAreAccepted : Prop :=
  ∀ (ck : Checksum) (s t r : State) (d : DWord),
    s.cfg.valid = true → s.cfg.headerSize ≤ s.len.toNat → s.len.toNat ≤ s.cfg.capacity →
    s.readBuf 0 = 0x9A → s.readBuf 1 = 0xC3 →
    (s.cfg.kind = .cmd → s.len.toNat - 8 < s.cfg.cmdMaxPayload) →
    send ck s = (t, ⟨.ok, false, d⟩) →
    r.cfg = s.cfg → r.txopen = false → r.completed = false → r.hold = false → r.len = 0 →
    ∃ x, t.txout = s.txout ++ x ∧ x.length = s.len.toNat ∧
      (processBuffer ck x r).status = .ok ∧ (processBuffer ck x r).consumed = x.length ∧
      (processBuffer ck x r).state.completed = true ∧
      (processBuffer ck x r).state.bufPrefix x.length = x
end

