-- ==== Sys2Proof/Laws/Decode.lean ====
section
/-! SUPPORT. For each operation of the decoder, one lemma that says when it answers an instruction and
which; and that the fields of a request word and the word determine each other. -/

namespace Sys2Proof

/-! ### The fields of a request word (R80) -/

/-- The fields of the word with given fields. -/
@[simp] theorem RequestFields.ofWord_toWord (f : RequestFields) : RequestFields.ofWord f.toWord = f := by
  obtain ⟨op, rsv, a, b⟩ := f
  simp only [RequestFields.ofWord, RequestFields.toWord, RequestFields.mk.injEq]
  refine ⟨?_, ?_, ?_, ?_⟩ <;>
  · apply BitVec.eq_of_getLsbD_eq
    intro i hi
    simp only [BitVec.getLsbD_extractLsb', BitVec.getLsbD_append]
    grind

/-- The word with the fields of a word: no bit of a request lies outside the fields. -/
@[simp] theorem RequestFields.toWord_ofWord (w : PortWord) : (RequestFields.ofWord w).toWord = w := by
  apply BitVec.eq_of_getLsbD_eq
  intro i hi
  simp only [RequestFields.ofWord, RequestFields.toWord, BitVec.getLsbD_append, BitVec.getLsbD_extractLsb']
  grind

/-- The fields of an instruction's word. -/
@[simp] theorem ofWord_encode (i : Instr) :
    RequestFields.ofWord (encode i) = { op := opcode i, rsv := 0, a := fieldA i, b := fieldB i } :=
  RequestFields.ofWord_toWord _

/-! ### The operand forms (R84, R85) -/

theorem operandA_ok_iff {n : Nat} {a : Word} {v : BitVec n} :
    operandA n a = .ok v ↔ a.toNat < 2 ^ n ∧ a.setWidth n = v := by
  unfold operandA
  split <;> simp_all

theorem noOperandB_ok_iff {b : DWord} : noOperandB b = .ok () ↔ b = 0 := by
  unfold noOperandB
  split
  · simp_all
  · simpa using ‹¬b = 0›

/-- A decoding in sequence succeeds where both parts do. -/
theorem decode_bind_ok_iff {α β : Type} {x : Except DecodeError α} {f : α → Except DecodeError β} {b : β} :
    (x >>= f) = .ok b ↔ ∃ a, x = .ok a ∧ f a = .ok b := by
  cases x <;> simp [bind, Except.bind]

theorem decodeA_ok_iff {n : Nat} {f : RequestFields} {mk : BitVec n → Instr} {i : Instr} :
    decodeA n f mk = .ok i ↔ f.a.toNat < 2 ^ n ∧ f.b = 0 ∧ mk (f.a.setWidth n) = i := by
  simp only [decodeA, decode_bind_ok_iff, operandA_ok_iff, pure, Except.pure, Except.ok.injEq]
  constructor
  · rintro ⟨_, ⟨h, rfl⟩, _, hb, rfl⟩
    exact ⟨h, noOperandB_ok_iff.1 hb, rfl⟩
  · rintro ⟨h, hb, rfl⟩
    exact ⟨_, ⟨h, rfl⟩, (), noOperandB_ok_iff.2 hb, rfl⟩

theorem decodeNone_ok_iff {f : RequestFields} {j i : Instr} :
    decodeNone f j = .ok i ↔ f.a = 0 ∧ f.b = 0 ∧ j = i := by
  simp only [decodeNone, decodeA_ok_iff]
  have : f.a.toNat < 2 ^ 0 ↔ f.a = 0 := by
    rw [← BitVec.toNat_inj]
    simp
  rw [this]

theorem decodeAB_ok_iff {n : Nat} {f : RequestFields} {mk : DWord → BitVec n → Instr} {i : Instr} :
    decodeAB n f mk = .ok i ↔ f.a.toNat < 2 ^ n ∧ mk f.b (f.a.setWidth n) = i := by
  simp only [decodeAB, decode_bind_ok_iff, operandA_ok_iff, pure, Except.pure, Except.ok.injEq]
  constructor
  · rintro ⟨_, ⟨h, rfl⟩, rfl⟩
    exact ⟨h, rfl⟩
  · rintro ⟨h, rfl⟩
    exact ⟨_, ⟨h, rfl⟩, rfl⟩

theorem decodeB_ok_iff {f : RequestFields} {mk : DWord → Instr} {i : Instr} :
    decodeB f mk = .ok i ↔ f.a = 0 ∧ mk f.b = i := by
  simp only [decodeB, decodeAB_ok_iff]
  have : f.a.toNat < 2 ^ 0 ↔ f.a = 0 := by
    rw [← BitVec.toNat_inj]
    simp
  rw [this]

/-- A word decodes where RSV is 0 and its OP's row accepts the fields (R85, R86). -/
theorem decode_ok_iff {w : PortWord} {i : Instr} :
    decode w = .ok i ↔ (RequestFields.ofWord w).rsv = 0 ∧ decodeOp (RequestFields.ofWord w) = .ok i := by
  unfold decode
  simp only
  split <;> simp_all

end Sys2Proof
end

