-- ==== Sys2Proof/Laws/Memory.lean ====
section
/-! SUPPORT. The laws of the buffers: a read after a write, and the canonical form every write keeps. -/

namespace Sys2Proof.Machine

@[simp] theorem Memory.read_nil (k : Nat) : Memory.read [] k = none := rfl

@[simp] theorem Memory.read_write_same (m : Memory) (k : Nat) (v : Byte) : (m.write k v).read k = some v := by
  induction m with
  | nil => simp [Memory.write, Memory.read]
  | cons c m ih =>
    obtain ⟨a, b⟩ := c
    by_cases h1 : k < a
    · simp [Memory.write, Memory.read, h1]
    · by_cases h2 : k = a <;> simp [Memory.write, Memory.read, h1, h2, ih]

@[simp] theorem Memory.read_write_ne (m : Memory) {k j : Nat} (v : Byte) (h : j ≠ k) :
    (m.write k v).read j = m.read j := by
  induction m with
  | nil => simp [Memory.write, Memory.read, h]
  | cons c m ih =>
    obtain ⟨a, b⟩ := c
    by_cases h1 : k < a
    · simp [Memory.write, Memory.read, h1, h]
    · by_cases h2 : k = a
      · subst h2
        simp [Memory.write, Memory.read, h]
      · by_cases h3 : j = a <;> simp [Memory.write, Memory.read, h1, h2, h3, ih]

/-- What a store into a buffer of `cap` bytes does, read back at any offset. -/
theorem Memory.read_store (cap : Nat) (m : Memory) (k j : Nat) (v : Byte) :
    (m.store cap k v).read j = if j = k ∧ k < cap then some v else m.read j := by
  unfold Memory.store
  by_cases hk : k < cap
  · by_cases hj : j = k
    · subst hj
      simp [hk]
    · simp [hk, hj]
  · simp [hk]

/-- What a store of a byte sequence does, read back at any offset. -/
theorem Memory.read_storeBytes (cap : Nat) (vs : List Byte) (m : Memory) (k j : Nat) :
    (m.storeBytes cap k vs).read j
      = if k ≤ j ∧ j < k + vs.length ∧ j < cap then vs[j - k]? else m.read j := by
  induction vs generalizing m k with
  | nil =>
    simp only [Memory.storeBytes, List.length_nil, Nat.add_zero]
    rw [if_neg (by omega)]
  | cons v vs ih =>
    simp only [Memory.storeBytes, ih, Memory.read_store, List.length_cons]
    by_cases hj : j = k
    · subst hj
      by_cases hc : j < cap <;> simp [hc]
    · by_cases hr : k + 1 ≤ j ∧ j < k + 1 + vs.length ∧ j < cap
      · rw [if_pos hr, if_pos (by omega)]
        obtain ⟨d, rfl⟩ : ∃ d, j = k + 1 + d := ⟨j - (k + 1), by omega⟩
        rw [show k + 1 + d - (k + 1) = d by omega, show k + 1 + d - k = d + 1 by omega]
        rfl
      · rw [if_neg hr, if_neg (by tauto), if_neg (by omega)]

/-- A lower bound on the listed offsets may be weakened. -/
theorem Memory.wfFrom_mono {cap a b : Nat} (hab : a ≤ b) {m : Memory} (h : m.wfFrom cap b = true) :
    m.wfFrom cap a = true := by
  cases m with
  | nil => rfl
  | cons c m =>
    simp only [Memory.wfFrom, Bool.and_eq_true, decide_eq_true_eq] at h ⊢
    exact ⟨⟨by omega, h.1.2⟩, h.2⟩

theorem Memory.wfFrom_write {cap a k : Nat} (v : Byte) (hak : a ≤ k) (hk : k < cap) {m : Memory}
    (h : m.wfFrom cap a = true) : (m.write k v).wfFrom cap a = true := by
  induction m generalizing a with
  | nil => simp [Memory.write, Memory.wfFrom, hak, hk]
  | cons c m ih =>
    obtain ⟨x, y⟩ := c
    simp only [Memory.wfFrom, Bool.and_eq_true, decide_eq_true_eq] at h
    by_cases h1 : k < x
    · simp only [Memory.write, h1, if_true, Memory.wfFrom, Bool.and_eq_true, decide_eq_true_eq]
      exact ⟨⟨hak, hk⟩, ⟨by omega, h.1.2⟩, h.2⟩
    · by_cases h2 : k = x
      · subst h2
        simp only [Memory.write, Nat.lt_irrefl, if_false, if_true, Memory.wfFrom, Bool.and_eq_true,
          decide_eq_true_eq]
        exact ⟨⟨hak, hk⟩, h.2⟩
      · simp only [Memory.write, h1, h2, if_false, Memory.wfFrom, Bool.and_eq_true, decide_eq_true_eq]
        exact ⟨h.1, ih (by omega) h.2⟩

@[simp] theorem Memory.wf_nil (cap : Nat) : Memory.wf cap [] = true := rfl

/-- A store keeps the canonical form. -/
theorem Memory.wf_store {cap : Nat} {m : Memory} (k : Nat) (v : Byte) (h : m.wf cap = true) :
    (m.store cap k v).wf cap = true := by
  unfold Memory.store
  split
  · exact Memory.wfFrom_write v (Nat.zero_le k) ‹_› h
  · exact h

/-- A store of a byte sequence keeps the canonical form. -/
theorem Memory.wf_storeBytes {cap : Nat} (vs : List Byte) {m : Memory} (k : Nat) (h : m.wf cap = true) :
    (m.storeBytes cap k vs).wf cap = true := by
  induction vs generalizing m k with
  | nil => exact h
  | cons v vs ih => exact ih (k + 1) (Memory.wf_store k v h)

end Sys2Proof.Machine
end

