-- ==== Sys2Proof/Laws/Params.lean ====
section
/-! SUPPORT. What the parameters of an instance guarantee (spec/00_scope.md R6 to R8). -/

namespace Sys2Proof

theorem Config.headerSize_cmd {c : Config} (h : c.kind = .cmd) : c.headerSize = 8 := by
  simp [Config.headerSize, h]

theorem Config.headerSize_tlm {c : Config} (h : c.kind = .tlm) : c.headerSize = 16 := by
  simp [Config.headerSize, h]

theorem Config.capacity_cmd {c : Config} (h : c.kind = .cmd) : c.capacity = 8 + c.cmdMaxPayload := by
  simp [Config.capacity, Config.headerSize, Config.maxPayload, h]

theorem Config.capacity_tlm {c : Config} (h : c.kind = .tlm) : c.capacity = 16 + c.tlmMaxPayload := by
  simp [Config.capacity, Config.headerSize, Config.maxPayload, h]

/-- Every instance has at least the eight header bytes of a command packet. -/
theorem Config.eight_le_capacity (c : Config) : 8 ≤ c.capacity := by
  cases h : c.kind
  · rw [Config.capacity_cmd h]; omega
  · rw [Config.capacity_tlm h]; omega

/-- What a valid configuration guarantees (R6). -/
theorem Config.valid_iff (c : Config) :
    c.valid = true ↔ 1 ≤ c.cmdMaxPayload ∧ c.cmdMaxPayload ≤ 256 ∧ c.tlmMaxPayload ≤ 65535 ∧
      (∀ row ∈ c.schema, row.2.len ≤ c.tlmMaxPayload) ∧
      c.schema.Pairwise (fun x y => x.1.toNat < y.1.toNat) := by
  simp [Config.valid, and_assoc]

/-- CAP fits the 17 bits of LEN (R20, R67). -/
theorem Config.capacity_lt {c : Config} (h : c.valid = true) : c.capacity ≤ 65551 := by
  obtain ⟨_, h2, h3, _⟩ := (Config.valid_iff c).1 h
  cases hk : c.kind
  · rw [Config.capacity_cmd hk]; omega
  · rw [Config.capacity_tlm hk]; omega

/-- An entry that a lookup finds is a row of SCHEMA. -/
theorem Config.schemaAt_mem {c : Config} {t : Byte} {e : SchemaEntry} (h : c.schemaAt t = some e) :
    (t, e) ∈ c.schema := by
  unfold Config.schemaAt at h
  generalize c.schema = rows at h
  induction rows with
  | nil => simp at h
  | cons row rows ih =>
    obtain ⟨u, f⟩ := row
    by_cases hu : t = u
    · subst hu
      simp at h
      simp [h]
    · simp only [List.lookup_cons, beq_eq_false_iff_ne.2 hu] at h
      exact List.mem_cons_of_mem _ (ih h)

/-- A schema length fits the payload (R6). -/
theorem Config.schemaAt_len_le {c : Config} (hv : c.valid = true) {t : Byte} {e : SchemaEntry}
    (h : c.schemaAt t = some e) : e.len ≤ c.tlmMaxPayload :=
  ((Config.valid_iff c).1 hv).2.2.2.1 (t, e) (Config.schemaAt_mem h)

/-- A length the rule accepts is at most the entry's length (R206). -/
theorem SchemaEntry.le_of_lenOK {e : SchemaEntry} {l : Nat} (h : e.lenOK l = true) : l ≤ e.len := by
  unfold SchemaEntry.lenOK at h
  split at h <;> simp at h <;> omega

end Sys2Proof
end

