-- ==== Sys2Proof/Laws/State.lean ====
section
/-! SUPPORT. One lemma per field per named update of the state, each true by rfl, so that no later
proof unfolds a record update. -/

namespace Sys2Proof.Machine

/-! ### `State.record` -/

@[simp] theorem State.record_cfg (s : State) (r : Response) : (s.record r).cfg = s.cfg := rfl
@[simp] theorem State.record_buf (s : State) (r : Response) : (s.record r).buf = s.buf := rfl
@[simp] theorem State.record_stage (s : State) (r : Response) : (s.record r).stage = s.stage := rfl
@[simp] theorem State.record_len (s : State) (r : Response) : (s.record r).len = s.len := rfl
@[simp] theorem State.record_completed (s : State) (r : Response) : (s.record r).completed = s.completed := rfl
@[simp] theorem State.record_hold (s : State) (r : Response) : (s.record r).hold = s.hold := rfl
@[simp] theorem State.record_txopen (s : State) (r : Response) : (s.record r).txopen = s.txopen := rfl
@[simp] theorem State.record_altered (s : State) (r : Response) : (s.record r).altered = s.altered := rfl
@[simp] theorem State.record_ridx (s : State) (r : Response) : (s.record r).ridx = s.ridx := rfl
@[simp] theorem State.record_lastfeed (s : State) (r : Response) : (s.record r).lastfeed = s.lastfeed := rfl
@[simp] theorem State.record_ctrl (s : State) (r : Response) : (s.record r).ctrl = s.ctrl := rfl
@[simp] theorem State.record_errcnt (s : State) (r : Response) : (s.record r).errcnt = s.errcnt := rfl
@[simp] theorem State.record_seq (s : State) (r : Response) : (s.record r).seq = s.seq := rfl
@[simp] theorem State.record_ev (s : State) (r : Response) : (s.record r).ev = s.ev := rfl
@[simp] theorem State.record_tag (s : State) (r : Response) : (s.record r).tag = s.tag := rfl
@[simp] theorem State.record_txout (s : State) (r : Response) : (s.record r).txout = s.txout := rfl
@[simp] theorem State.record_epoch (s : State) (r : Response) : (s.record r).epoch = s.epoch := rfl
@[simp] theorem State.record_pending (s : State) (r : Response) : (s.record r).pending = s.pending := rfl
@[simp] theorem State.record_responses (s : State) (r : Response) : (s.record r).responses = s.responses ++ [r] := rfl

/-! ### `State.setBuf` -/

@[simp] theorem State.setBuf_cfg (s : State) (k : Nat) (v : Byte) : (s.setBuf k v).cfg = s.cfg := rfl
@[simp] theorem State.setBuf_buf (s : State) (k : Nat) (v : Byte) : (s.setBuf k v).buf = s.buf.store s.cfg.capacity k v := rfl
@[simp] theorem State.setBuf_stage (s : State) (k : Nat) (v : Byte) : (s.setBuf k v).stage = s.stage := rfl
@[simp] theorem State.setBuf_len (s : State) (k : Nat) (v : Byte) : (s.setBuf k v).len = s.len := rfl
@[simp] theorem State.setBuf_completed (s : State) (k : Nat) (v : Byte) : (s.setBuf k v).completed = s.completed := rfl
@[simp] theorem State.setBuf_hold (s : State) (k : Nat) (v : Byte) : (s.setBuf k v).hold = s.hold := rfl
@[simp] theorem State.setBuf_txopen (s : State) (k : Nat) (v : Byte) : (s.setBuf k v).txopen = s.txopen := rfl
@[simp] theorem State.setBuf_altered (s : State) (k : Nat) (v : Byte) : (s.setBuf k v).altered = s.altered := rfl
@[simp] theorem State.setBuf_ridx (s : State) (k : Nat) (v : Byte) : (s.setBuf k v).ridx = s.ridx := rfl
@[simp] theorem State.setBuf_lastfeed (s : State) (k : Nat) (v : Byte) : (s.setBuf k v).lastfeed = s.lastfeed := rfl
@[simp] theorem State.setBuf_ctrl (s : State) (k : Nat) (v : Byte) : (s.setBuf k v).ctrl = s.ctrl := rfl
@[simp] theorem State.setBuf_errcnt (s : State) (k : Nat) (v : Byte) : (s.setBuf k v).errcnt = s.errcnt := rfl
@[simp] theorem State.setBuf_seq (s : State) (k : Nat) (v : Byte) : (s.setBuf k v).seq = s.seq := rfl
@[simp] theorem State.setBuf_ev (s : State) (k : Nat) (v : Byte) : (s.setBuf k v).ev = s.ev := rfl
@[simp] theorem State.setBuf_tag (s : State) (k : Nat) (v : Byte) : (s.setBuf k v).tag = s.tag := rfl
@[simp] theorem State.setBuf_txout (s : State) (k : Nat) (v : Byte) : (s.setBuf k v).txout = s.txout := rfl
@[simp] theorem State.setBuf_epoch (s : State) (k : Nat) (v : Byte) : (s.setBuf k v).epoch = s.epoch := rfl
@[simp] theorem State.setBuf_pending (s : State) (k : Nat) (v : Byte) : (s.setBuf k v).pending = s.pending := rfl
@[simp] theorem State.setBuf_responses (s : State) (k : Nat) (v : Byte) : (s.setBuf k v).responses = s.responses := rfl

/-! ### `State.setBufWord` -/

@[simp] theorem State.setBufWord_cfg (s : State) (k : Nat) (w : Word) : (s.setBufWord k w).cfg = s.cfg := rfl
@[simp] theorem State.setBufWord_buf (s : State) (k : Nat) (w : Word) : (s.setBufWord k w).buf = (s.buf.store s.cfg.capacity k (lo16 w)).store s.cfg.capacity (k + 1) (hi16 w) := rfl
@[simp] theorem State.setBufWord_stage (s : State) (k : Nat) (w : Word) : (s.setBufWord k w).stage = s.stage := rfl
@[simp] theorem State.setBufWord_len (s : State) (k : Nat) (w : Word) : (s.setBufWord k w).len = s.len := rfl
@[simp] theorem State.setBufWord_completed (s : State) (k : Nat) (w : Word) : (s.setBufWord k w).completed = s.completed := rfl
@[simp] theorem State.setBufWord_hold (s : State) (k : Nat) (w : Word) : (s.setBufWord k w).hold = s.hold := rfl
@[simp] theorem State.setBufWord_txopen (s : State) (k : Nat) (w : Word) : (s.setBufWord k w).txopen = s.txopen := rfl
@[simp] theorem State.setBufWord_altered (s : State) (k : Nat) (w : Word) : (s.setBufWord k w).altered = s.altered := rfl
@[simp] theorem State.setBufWord_ridx (s : State) (k : Nat) (w : Word) : (s.setBufWord k w).ridx = s.ridx := rfl
@[simp] theorem State.setBufWord_lastfeed (s : State) (k : Nat) (w : Word) : (s.setBufWord k w).lastfeed = s.lastfeed := rfl
@[simp] theorem State.setBufWord_ctrl (s : State) (k : Nat) (w : Word) : (s.setBufWord k w).ctrl = s.ctrl := rfl
@[simp] theorem State.setBufWord_errcnt (s : State) (k : Nat) (w : Word) : (s.setBufWord k w).errcnt = s.errcnt := rfl
@[simp] theorem State.setBufWord_seq (s : State) (k : Nat) (w : Word) : (s.setBufWord k w).seq = s.seq := rfl
@[simp] theorem State.setBufWord_ev (s : State) (k : Nat) (w : Word) : (s.setBufWord k w).ev = s.ev := rfl
@[simp] theorem State.setBufWord_tag (s : State) (k : Nat) (w : Word) : (s.setBufWord k w).tag = s.tag := rfl
@[simp] theorem State.setBufWord_txout (s : State) (k : Nat) (w : Word) : (s.setBufWord k w).txout = s.txout := rfl
@[simp] theorem State.setBufWord_epoch (s : State) (k : Nat) (w : Word) : (s.setBufWord k w).epoch = s.epoch := rfl
@[simp] theorem State.setBufWord_pending (s : State) (k : Nat) (w : Word) : (s.setBufWord k w).pending = s.pending := rfl
@[simp] theorem State.setBufWord_responses (s : State) (k : Nat) (w : Word) : (s.setBufWord k w).responses = s.responses := rfl

/-! ### `State.setBufBytes` -/

@[simp] theorem State.setBufBytes_cfg (s : State) (k : Nat) (vs : List Byte) : (s.setBufBytes k vs).cfg = s.cfg := rfl
@[simp] theorem State.setBufBytes_buf (s : State) (k : Nat) (vs : List Byte) : (s.setBufBytes k vs).buf = s.buf.storeBytes s.cfg.capacity k vs := rfl
@[simp] theorem State.setBufBytes_stage (s : State) (k : Nat) (vs : List Byte) : (s.setBufBytes k vs).stage = s.stage := rfl
@[simp] theorem State.setBufBytes_len (s : State) (k : Nat) (vs : List Byte) : (s.setBufBytes k vs).len = s.len := rfl
@[simp] theorem State.setBufBytes_completed (s : State) (k : Nat) (vs : List Byte) : (s.setBufBytes k vs).completed = s.completed := rfl
@[simp] theorem State.setBufBytes_hold (s : State) (k : Nat) (vs : List Byte) : (s.setBufBytes k vs).hold = s.hold := rfl
@[simp] theorem State.setBufBytes_txopen (s : State) (k : Nat) (vs : List Byte) : (s.setBufBytes k vs).txopen = s.txopen := rfl
@[simp] theorem State.setBufBytes_altered (s : State) (k : Nat) (vs : List Byte) : (s.setBufBytes k vs).altered = s.altered := rfl
@[simp] theorem State.setBufBytes_ridx (s : State) (k : Nat) (vs : List Byte) : (s.setBufBytes k vs).ridx = s.ridx := rfl
@[simp] theorem State.setBufBytes_lastfeed (s : State) (k : Nat) (vs : List Byte) : (s.setBufBytes k vs).lastfeed = s.lastfeed := rfl
@[simp] theorem State.setBufBytes_ctrl (s : State) (k : Nat) (vs : List Byte) : (s.setBufBytes k vs).ctrl = s.ctrl := rfl
@[simp] theorem State.setBufBytes_errcnt (s : State) (k : Nat) (vs : List Byte) : (s.setBufBytes k vs).errcnt = s.errcnt := rfl
@[simp] theorem State.setBufBytes_seq (s : State) (k : Nat) (vs : List Byte) : (s.setBufBytes k vs).seq = s.seq := rfl
@[simp] theorem State.setBufBytes_ev (s : State) (k : Nat) (vs : List Byte) : (s.setBufBytes k vs).ev = s.ev := rfl
@[simp] theorem State.setBufBytes_tag (s : State) (k : Nat) (vs : List Byte) : (s.setBufBytes k vs).tag = s.tag := rfl
@[simp] theorem State.setBufBytes_txout (s : State) (k : Nat) (vs : List Byte) : (s.setBufBytes k vs).txout = s.txout := rfl
@[simp] theorem State.setBufBytes_epoch (s : State) (k : Nat) (vs : List Byte) : (s.setBufBytes k vs).epoch = s.epoch := rfl
@[simp] theorem State.setBufBytes_pending (s : State) (k : Nat) (vs : List Byte) : (s.setBufBytes k vs).pending = s.pending := rfl
@[simp] theorem State.setBufBytes_responses (s : State) (k : Nat) (vs : List Byte) : (s.setBufBytes k vs).responses = s.responses := rfl

/-! ### `State.setStage` -/

@[simp] theorem State.setStage_cfg (s : State) (k : Nat) (v : Byte) : (s.setStage k v).cfg = s.cfg := rfl
@[simp] theorem State.setStage_buf (s : State) (k : Nat) (v : Byte) : (s.setStage k v).buf = s.buf := rfl
@[simp] theorem State.setStage_stage (s : State) (k : Nat) (v : Byte) : (s.setStage k v).stage = s.stage.store s.cfg.capacity k v := rfl
@[simp] theorem State.setStage_len (s : State) (k : Nat) (v : Byte) : (s.setStage k v).len = s.len := rfl
@[simp] theorem State.setStage_completed (s : State) (k : Nat) (v : Byte) : (s.setStage k v).completed = s.completed := rfl
@[simp] theorem State.setStage_hold (s : State) (k : Nat) (v : Byte) : (s.setStage k v).hold = s.hold := rfl
@[simp] theorem State.setStage_txopen (s : State) (k : Nat) (v : Byte) : (s.setStage k v).txopen = s.txopen := rfl
@[simp] theorem State.setStage_altered (s : State) (k : Nat) (v : Byte) : (s.setStage k v).altered = s.altered := rfl
@[simp] theorem State.setStage_ridx (s : State) (k : Nat) (v : Byte) : (s.setStage k v).ridx = s.ridx := rfl
@[simp] theorem State.setStage_lastfeed (s : State) (k : Nat) (v : Byte) : (s.setStage k v).lastfeed = s.lastfeed := rfl
@[simp] theorem State.setStage_ctrl (s : State) (k : Nat) (v : Byte) : (s.setStage k v).ctrl = s.ctrl := rfl
@[simp] theorem State.setStage_errcnt (s : State) (k : Nat) (v : Byte) : (s.setStage k v).errcnt = s.errcnt := rfl
@[simp] theorem State.setStage_seq (s : State) (k : Nat) (v : Byte) : (s.setStage k v).seq = s.seq := rfl
@[simp] theorem State.setStage_ev (s : State) (k : Nat) (v : Byte) : (s.setStage k v).ev = s.ev := rfl
@[simp] theorem State.setStage_tag (s : State) (k : Nat) (v : Byte) : (s.setStage k v).tag = s.tag := rfl
@[simp] theorem State.setStage_txout (s : State) (k : Nat) (v : Byte) : (s.setStage k v).txout = s.txout := rfl
@[simp] theorem State.setStage_epoch (s : State) (k : Nat) (v : Byte) : (s.setStage k v).epoch = s.epoch := rfl
@[simp] theorem State.setStage_pending (s : State) (k : Nat) (v : Byte) : (s.setStage k v).pending = s.pending := rfl
@[simp] theorem State.setStage_responses (s : State) (k : Nat) (v : Byte) : (s.setStage k v).responses = s.responses := rfl

/-! ### `State.sealChecksum` -/

@[simp] theorem State.sealChecksum_cfg (ck : Checksum) (s : State) : (State.sealChecksum ck s).cfg = s.cfg := rfl
@[simp] theorem State.sealChecksum_buf (ck : Checksum) (s : State) : (State.sealChecksum ck s).buf = (s.setBufWord 6 (s.imageChecksum ck)).buf := rfl
@[simp] theorem State.sealChecksum_stage (ck : Checksum) (s : State) : (State.sealChecksum ck s).stage = s.stage := rfl
@[simp] theorem State.sealChecksum_len (ck : Checksum) (s : State) : (State.sealChecksum ck s).len = s.len := rfl
@[simp] theorem State.sealChecksum_completed (ck : Checksum) (s : State) : (State.sealChecksum ck s).completed = s.completed := rfl
@[simp] theorem State.sealChecksum_hold (ck : Checksum) (s : State) : (State.sealChecksum ck s).hold = s.hold := rfl
@[simp] theorem State.sealChecksum_txopen (ck : Checksum) (s : State) : (State.sealChecksum ck s).txopen = s.txopen := rfl
@[simp] theorem State.sealChecksum_altered (ck : Checksum) (s : State) : (State.sealChecksum ck s).altered = false := rfl
@[simp] theorem State.sealChecksum_ridx (ck : Checksum) (s : State) : (State.sealChecksum ck s).ridx = s.ridx := rfl
@[simp] theorem State.sealChecksum_lastfeed (ck : Checksum) (s : State) : (State.sealChecksum ck s).lastfeed = s.lastfeed := rfl
@[simp] theorem State.sealChecksum_ctrl (ck : Checksum) (s : State) : (State.sealChecksum ck s).ctrl = s.ctrl := rfl
@[simp] theorem State.sealChecksum_errcnt (ck : Checksum) (s : State) : (State.sealChecksum ck s).errcnt = s.errcnt := rfl
@[simp] theorem State.sealChecksum_seq (ck : Checksum) (s : State) : (State.sealChecksum ck s).seq = s.seq := rfl
@[simp] theorem State.sealChecksum_ev (ck : Checksum) (s : State) : (State.sealChecksum ck s).ev = s.ev := rfl
@[simp] theorem State.sealChecksum_tag (ck : Checksum) (s : State) : (State.sealChecksum ck s).tag = s.tag := rfl
@[simp] theorem State.sealChecksum_txout (ck : Checksum) (s : State) : (State.sealChecksum ck s).txout = s.txout := rfl
@[simp] theorem State.sealChecksum_epoch (ck : Checksum) (s : State) : (State.sealChecksum ck s).epoch = s.epoch := rfl
@[simp] theorem State.sealChecksum_pending (ck : Checksum) (s : State) : (State.sealChecksum ck s).pending = s.pending := rfl
@[simp] theorem State.sealChecksum_responses (ck : Checksum) (s : State) : (State.sealChecksum ck s).responses = s.responses := rfl

/-! ### `State.releaseHold` -/

@[simp] theorem State.releaseHold_cfg (s : State) : (s.releaseHold).cfg = s.cfg := rfl
@[simp] theorem State.releaseHold_buf (s : State) : (s.releaseHold).buf = s.buf := rfl
@[simp] theorem State.releaseHold_stage (s : State) : (s.releaseHold).stage = s.stage := rfl
@[simp] theorem State.releaseHold_len (s : State) : (s.releaseHold).len = s.len := rfl
@[simp] theorem State.releaseHold_completed (s : State) : (s.releaseHold).completed = s.completed := rfl
@[simp] theorem State.releaseHold_hold (s : State) : (s.releaseHold).hold = false := rfl
@[simp] theorem State.releaseHold_txopen (s : State) : (s.releaseHold).txopen = s.txopen := rfl
@[simp] theorem State.releaseHold_altered (s : State) : (s.releaseHold).altered = s.altered := rfl
@[simp] theorem State.releaseHold_ridx (s : State) : (s.releaseHold).ridx = s.ridx := rfl
@[simp] theorem State.releaseHold_lastfeed (s : State) : (s.releaseHold).lastfeed = s.lastfeed := rfl
@[simp] theorem State.releaseHold_ctrl (s : State) : (s.releaseHold).ctrl = s.ctrl := rfl
@[simp] theorem State.releaseHold_errcnt (s : State) : (s.releaseHold).errcnt = s.errcnt := rfl
@[simp] theorem State.releaseHold_seq (s : State) : (s.releaseHold).seq = s.seq := rfl
@[simp] theorem State.releaseHold_ev (s : State) : (s.releaseHold).ev = s.ev := rfl
@[simp] theorem State.releaseHold_tag (s : State) : (s.releaseHold).tag = s.tag := rfl
@[simp] theorem State.releaseHold_txout (s : State) : (s.releaseHold).txout = s.txout := rfl
@[simp] theorem State.releaseHold_epoch (s : State) : (s.releaseHold).epoch = s.epoch := rfl
@[simp] theorem State.releaseHold_pending (s : State) : (s.releaseHold).pending = s.pending := rfl
@[simp] theorem State.releaseHold_responses (s : State) : (s.releaseHold).responses = s.responses := rfl

/-! ### `State.framingError` -/

@[simp] theorem State.framingError_cfg (s : State) : (s.framingError).cfg = s.cfg := rfl
@[simp] theorem State.framingError_buf (s : State) : (s.framingError).buf = s.buf := rfl
@[simp] theorem State.framingError_stage (s : State) : (s.framingError).stage = s.stage := rfl
@[simp] theorem State.framingError_len (s : State) : (s.framingError).len = s.len := rfl
@[simp] theorem State.framingError_completed (s : State) : (s.framingError).completed = s.completed := rfl
@[simp] theorem State.framingError_hold (s : State) : (s.framingError).hold = (s.hold || !s.auto) := rfl
@[simp] theorem State.framingError_txopen (s : State) : (s.framingError).txopen = s.txopen := rfl
@[simp] theorem State.framingError_altered (s : State) : (s.framingError).altered = s.altered := rfl
@[simp] theorem State.framingError_ridx (s : State) : (s.framingError).ridx = s.ridx := rfl
@[simp] theorem State.framingError_lastfeed (s : State) : (s.framingError).lastfeed = s.lastfeed := rfl
@[simp] theorem State.framingError_ctrl (s : State) : (s.framingError).ctrl = s.ctrl := rfl
@[simp] theorem State.framingError_errcnt (s : State) : (s.framingError).errcnt = s.errcnt + 1 := rfl
@[simp] theorem State.framingError_seq (s : State) : (s.framingError).seq = s.seq := rfl
@[simp] theorem State.framingError_ev (s : State) : (s.framingError).ev = s.ev ||| 0b10 := rfl
@[simp] theorem State.framingError_tag (s : State) : (s.framingError).tag = s.tag := rfl
@[simp] theorem State.framingError_txout (s : State) : (s.framingError).txout = s.txout := rfl
@[simp] theorem State.framingError_epoch (s : State) : (s.framingError).epoch = s.epoch := rfl
@[simp] theorem State.framingError_pending (s : State) : (s.framingError).pending = s.pending := rfl
@[simp] theorem State.framingError_responses (s : State) : (s.framingError).responses = s.responses := rfl

/-! ### `State.completion` -/

@[simp] theorem State.completion_cfg (s : State) : (s.completion).cfg = s.cfg := rfl
@[simp] theorem State.completion_buf (s : State) : (s.completion).buf = s.buf := rfl
@[simp] theorem State.completion_stage (s : State) : (s.completion).stage = s.stage := rfl
@[simp] theorem State.completion_len (s : State) : (s.completion).len = s.len := rfl
@[simp] theorem State.completion_completed (s : State) : (s.completion).completed = true := rfl
@[simp] theorem State.completion_hold (s : State) : (s.completion).hold = s.hold := rfl
@[simp] theorem State.completion_txopen (s : State) : (s.completion).txopen = s.txopen := rfl
@[simp] theorem State.completion_altered (s : State) : (s.completion).altered = s.altered := rfl
@[simp] theorem State.completion_ridx (s : State) : (s.completion).ridx = 0 := rfl
@[simp] theorem State.completion_lastfeed (s : State) : (s.completion).lastfeed = s.lastfeed := rfl
@[simp] theorem State.completion_ctrl (s : State) : (s.completion).ctrl = s.ctrl := rfl
@[simp] theorem State.completion_errcnt (s : State) : (s.completion).errcnt = s.errcnt := rfl
@[simp] theorem State.completion_seq (s : State) : (s.completion).seq = s.seq := rfl
@[simp] theorem State.completion_ev (s : State) : (s.completion).ev = s.ev ||| 0b01 := rfl
@[simp] theorem State.completion_tag (s : State) : (s.completion).tag = (match s.cfg.kind with | .cmd => s.tag | .tlm => ((s.cfg.schemaAt (s.readBuf 2)).map (·.tag)).getD s.tag) := rfl
@[simp] theorem State.completion_txout (s : State) : (s.completion).txout = s.txout := rfl
@[simp] theorem State.completion_epoch (s : State) : (s.completion).epoch = s.epoch := rfl
@[simp] theorem State.completion_pending (s : State) : (s.completion).pending = s.pending := rfl
@[simp] theorem State.completion_responses (s : State) : (s.completion).responses = s.responses := rfl

/-! ### `State.softReset` -/

@[simp] theorem State.softReset_cfg (s : State) : (s.softReset).cfg = s.cfg := rfl
@[simp] theorem State.softReset_buf (s : State) : (s.softReset).buf = s.buf := rfl
@[simp] theorem State.softReset_stage (s : State) : (s.softReset).stage = s.stage := rfl
@[simp] theorem State.softReset_len (s : State) : (s.softReset).len = 0 := rfl
@[simp] theorem State.softReset_completed (s : State) : (s.softReset).completed = false := rfl
@[simp] theorem State.softReset_hold (s : State) : (s.softReset).hold = false := rfl
@[simp] theorem State.softReset_txopen (s : State) : (s.softReset).txopen = false := rfl
@[simp] theorem State.softReset_altered (s : State) : (s.softReset).altered = false := rfl
@[simp] theorem State.softReset_ridx (s : State) : (s.softReset).ridx = 0 := rfl
@[simp] theorem State.softReset_lastfeed (s : State) : (s.softReset).lastfeed = .incomplete := rfl
@[simp] theorem State.softReset_ctrl (s : State) : (s.softReset).ctrl = s.ctrl := rfl
@[simp] theorem State.softReset_errcnt (s : State) : (s.softReset).errcnt = s.errcnt := rfl
@[simp] theorem State.softReset_seq (s : State) : (s.softReset).seq = s.seq := rfl
@[simp] theorem State.softReset_ev (s : State) : (s.softReset).ev = s.ev := rfl
@[simp] theorem State.softReset_tag (s : State) : (s.softReset).tag = s.tag := rfl
@[simp] theorem State.softReset_txout (s : State) : (s.softReset).txout = s.txout := rfl
@[simp] theorem State.softReset_epoch (s : State) : (s.softReset).epoch = s.epoch := rfl
@[simp] theorem State.softReset_pending (s : State) : (s.softReset).pending = s.pending := rfl
@[simp] theorem State.softReset_responses (s : State) : (s.softReset).responses = s.responses := rfl

/-! ### `State.openOutput` -/

@[simp] theorem State.openOutput_cfg (s : State) (n : Nat) : (s.openOutput n).cfg = s.cfg := rfl
@[simp] theorem State.openOutput_buf (s : State) (n : Nat) : (s.openOutput n).buf = s.buf := rfl
@[simp] theorem State.openOutput_stage (s : State) (n : Nat) : (s.openOutput n).stage = s.stage := rfl
@[simp] theorem State.openOutput_len (s : State) (n : Nat) : (s.openOutput n).len = BitVec.ofNat 17 n := rfl
@[simp] theorem State.openOutput_completed (s : State) (n : Nat) : (s.openOutput n).completed = false := rfl
@[simp] theorem State.openOutput_hold (s : State) (n : Nat) : (s.openOutput n).hold = false := rfl
@[simp] theorem State.openOutput_txopen (s : State) (n : Nat) : (s.openOutput n).txopen = true := rfl
@[simp] theorem State.openOutput_altered (s : State) (n : Nat) : (s.openOutput n).altered = true := rfl
@[simp] theorem State.openOutput_ridx (s : State) (n : Nat) : (s.openOutput n).ridx = 0 := rfl
@[simp] theorem State.openOutput_lastfeed (s : State) (n : Nat) : (s.openOutput n).lastfeed = s.lastfeed := rfl
@[simp] theorem State.openOutput_ctrl (s : State) (n : Nat) : (s.openOutput n).ctrl = s.ctrl := rfl
@[simp] theorem State.openOutput_errcnt (s : State) (n : Nat) : (s.openOutput n).errcnt = s.errcnt := rfl
@[simp] theorem State.openOutput_seq (s : State) (n : Nat) : (s.openOutput n).seq = s.seq := rfl
@[simp] theorem State.openOutput_ev (s : State) (n : Nat) : (s.openOutput n).ev = s.ev := rfl
@[simp] theorem State.openOutput_tag (s : State) (n : Nat) : (s.openOutput n).tag = s.tag := rfl
@[simp] theorem State.openOutput_txout (s : State) (n : Nat) : (s.openOutput n).txout = s.txout := rfl
@[simp] theorem State.openOutput_epoch (s : State) (n : Nat) : (s.openOutput n).epoch = s.epoch := rfl
@[simp] theorem State.openOutput_pending (s : State) (n : Nat) : (s.openOutput n).pending = s.pending := rfl
@[simp] theorem State.openOutput_responses (s : State) (n : Nat) : (s.openOutput n).responses = s.responses := rfl

/-! ### `State.append` -/

@[simp] theorem State.append_cfg (s : State) (b : Byte) : (s.append b).cfg = s.cfg := rfl
@[simp] theorem State.append_buf (s : State) (b : Byte) : (s.append b).buf = s.buf.store s.cfg.capacity s.len.toNat b := rfl
@[simp] theorem State.append_stage (s : State) (b : Byte) : (s.append b).stage = s.stage := rfl
@[simp] theorem State.append_len (s : State) (b : Byte) : (s.append b).len = s.len + 1 := rfl
@[simp] theorem State.append_completed (s : State) (b : Byte) : (s.append b).completed = s.completed := rfl
@[simp] theorem State.append_hold (s : State) (b : Byte) : (s.append b).hold = s.hold := rfl
@[simp] theorem State.append_txopen (s : State) (b : Byte) : (s.append b).txopen = s.txopen := rfl
@[simp] theorem State.append_altered (s : State) (b : Byte) : (s.append b).altered = s.altered := rfl
@[simp] theorem State.append_ridx (s : State) (b : Byte) : (s.append b).ridx = s.ridx := rfl
@[simp] theorem State.append_lastfeed (s : State) (b : Byte) : (s.append b).lastfeed = s.lastfeed := rfl
@[simp] theorem State.append_ctrl (s : State) (b : Byte) : (s.append b).ctrl = s.ctrl := rfl
@[simp] theorem State.append_errcnt (s : State) (b : Byte) : (s.append b).errcnt = s.errcnt := rfl
@[simp] theorem State.append_seq (s : State) (b : Byte) : (s.append b).seq = s.seq := rfl
@[simp] theorem State.append_ev (s : State) (b : Byte) : (s.append b).ev = s.ev := rfl
@[simp] theorem State.append_tag (s : State) (b : Byte) : (s.append b).tag = s.tag := rfl
@[simp] theorem State.append_txout (s : State) (b : Byte) : (s.append b).txout = s.txout := rfl
@[simp] theorem State.append_epoch (s : State) (b : Byte) : (s.append b).epoch = s.epoch := rfl
@[simp] theorem State.append_pending (s : State) (b : Byte) : (s.append b).pending = s.pending := rfl
@[simp] theorem State.append_responses (s : State) (b : Byte) : (s.append b).responses = s.responses := rfl

/-! ### `State.appendWord` -/

@[simp] theorem State.appendWord_cfg (s : State) (w : Word) : (s.appendWord w).cfg = s.cfg := rfl
@[simp] theorem State.appendWord_buf (s : State) (w : Word) : (s.appendWord w).buf = (s.setBufWord s.len.toNat w).buf := rfl
@[simp] theorem State.appendWord_stage (s : State) (w : Word) : (s.appendWord w).stage = s.stage := rfl
@[simp] theorem State.appendWord_len (s : State) (w : Word) : (s.appendWord w).len = s.len + 2 := rfl
@[simp] theorem State.appendWord_completed (s : State) (w : Word) : (s.appendWord w).completed = s.completed := rfl
@[simp] theorem State.appendWord_hold (s : State) (w : Word) : (s.appendWord w).hold = s.hold := rfl
@[simp] theorem State.appendWord_txopen (s : State) (w : Word) : (s.appendWord w).txopen = s.txopen := rfl
@[simp] theorem State.appendWord_altered (s : State) (w : Word) : (s.appendWord w).altered = s.altered := rfl
@[simp] theorem State.appendWord_ridx (s : State) (w : Word) : (s.appendWord w).ridx = s.ridx := rfl
@[simp] theorem State.appendWord_lastfeed (s : State) (w : Word) : (s.appendWord w).lastfeed = s.lastfeed := rfl
@[simp] theorem State.appendWord_ctrl (s : State) (w : Word) : (s.appendWord w).ctrl = s.ctrl := rfl
@[simp] theorem State.appendWord_errcnt (s : State) (w : Word) : (s.appendWord w).errcnt = s.errcnt := rfl
@[simp] theorem State.appendWord_seq (s : State) (w : Word) : (s.appendWord w).seq = s.seq := rfl
@[simp] theorem State.appendWord_ev (s : State) (w : Word) : (s.appendWord w).ev = s.ev := rfl
@[simp] theorem State.appendWord_tag (s : State) (w : Word) : (s.appendWord w).tag = s.tag := rfl
@[simp] theorem State.appendWord_txout (s : State) (w : Word) : (s.appendWord w).txout = s.txout := rfl
@[simp] theorem State.appendWord_epoch (s : State) (w : Word) : (s.appendWord w).epoch = s.epoch := rfl
@[simp] theorem State.appendWord_pending (s : State) (w : Word) : (s.appendWord w).pending = s.pending := rfl
@[simp] theorem State.appendWord_responses (s : State) (w : Word) : (s.appendWord w).responses = s.responses := rfl

/-! ### Power-on reset -/

@[simp] theorem State.powerOn_cfg (cfg : Config) (epoch : Nat) : (State.powerOn cfg epoch).cfg = cfg := rfl
@[simp] theorem State.powerOn_buf (cfg : Config) (epoch : Nat) : (State.powerOn cfg epoch).buf = [] := rfl
@[simp] theorem State.powerOn_stage (cfg : Config) (epoch : Nat) : (State.powerOn cfg epoch).stage = [] := rfl
@[simp] theorem State.powerOn_len (cfg : Config) (epoch : Nat) : (State.powerOn cfg epoch).len = 0 := rfl
@[simp] theorem State.powerOn_completed (cfg : Config) (epoch : Nat) : (State.powerOn cfg epoch).completed = false := rfl
@[simp] theorem State.powerOn_hold (cfg : Config) (epoch : Nat) : (State.powerOn cfg epoch).hold = false := rfl
@[simp] theorem State.powerOn_txopen (cfg : Config) (epoch : Nat) : (State.powerOn cfg epoch).txopen = false := rfl
@[simp] theorem State.powerOn_altered (cfg : Config) (epoch : Nat) : (State.powerOn cfg epoch).altered = false := rfl
@[simp] theorem State.powerOn_ridx (cfg : Config) (epoch : Nat) : (State.powerOn cfg epoch).ridx = 0 := rfl
@[simp] theorem State.powerOn_lastfeed (cfg : Config) (epoch : Nat) : (State.powerOn cfg epoch).lastfeed = .incomplete := rfl
@[simp] theorem State.powerOn_ctrl (cfg : Config) (epoch : Nat) : (State.powerOn cfg epoch).ctrl = 0b001 := rfl
@[simp] theorem State.powerOn_errcnt (cfg : Config) (epoch : Nat) : (State.powerOn cfg epoch).errcnt = 0 := rfl
@[simp] theorem State.powerOn_seq (cfg : Config) (epoch : Nat) : (State.powerOn cfg epoch).seq = cfg.seqInit := rfl
@[simp] theorem State.powerOn_ev (cfg : Config) (epoch : Nat) : (State.powerOn cfg epoch).ev = 0 := rfl
@[simp] theorem State.powerOn_tag (cfg : Config) (epoch : Nat) : (State.powerOn cfg epoch).tag = 0 := rfl
@[simp] theorem State.powerOn_txout (cfg : Config) (epoch : Nat) : (State.powerOn cfg epoch).txout = [] := rfl
@[simp] theorem State.powerOn_epoch (cfg : Config) (epoch : Nat) : (State.powerOn cfg epoch).epoch = epoch := rfl
@[simp] theorem State.powerOn_pending (cfg : Config) (epoch : Nat) : (State.powerOn cfg epoch).pending = [] := rfl
@[simp] theorem State.powerOn_responses (cfg : Config) (epoch : Nat) : (State.powerOn cfg epoch).responses = [] := rfl

@[simp] theorem State.applyRst_cfg (s : State) : s.applyRst.cfg = s.cfg := rfl
@[simp] theorem State.applyRst_buf (s : State) : s.applyRst.buf = [] := rfl
@[simp] theorem State.applyRst_stage (s : State) : s.applyRst.stage = [] := rfl
@[simp] theorem State.applyRst_len (s : State) : s.applyRst.len = 0 := rfl
@[simp] theorem State.applyRst_completed (s : State) : s.applyRst.completed = false := rfl
@[simp] theorem State.applyRst_hold (s : State) : s.applyRst.hold = false := rfl
@[simp] theorem State.applyRst_txopen (s : State) : s.applyRst.txopen = false := rfl
@[simp] theorem State.applyRst_altered (s : State) : s.applyRst.altered = false := rfl
@[simp] theorem State.applyRst_ridx (s : State) : s.applyRst.ridx = 0 := rfl
@[simp] theorem State.applyRst_lastfeed (s : State) : s.applyRst.lastfeed = .incomplete := rfl
@[simp] theorem State.applyRst_ctrl (s : State) : s.applyRst.ctrl = 0b001 := rfl
@[simp] theorem State.applyRst_errcnt (s : State) : s.applyRst.errcnt = 0 := rfl
@[simp] theorem State.applyRst_seq (s : State) : s.applyRst.seq = s.cfg.seqInit := rfl
@[simp] theorem State.applyRst_ev (s : State) : s.applyRst.ev = 0 := rfl
@[simp] theorem State.applyRst_tag (s : State) : s.applyRst.tag = 0 := rfl
@[simp] theorem State.applyRst_txout (s : State) : s.applyRst.txout = [] := rfl
@[simp] theorem State.applyRst_epoch (s : State) : s.applyRst.epoch = s.epoch + 1 := rfl
@[simp] theorem State.applyRst_pending (s : State) : s.applyRst.pending = s.pending := rfl
@[simp] theorem State.applyRst_responses (s : State) : s.applyRst.responses = [] := rfl

end Sys2Proof.Machine
end

