-- ==== Sys2Proof/Laws/Ops.lean ====
section
/-! SUPPORT. For each shared operation, one lemma that says once what it does. -/

namespace Sys2Proof.Machine

/-! ### Words and bytes -/

@[simp] theorem lo16_le16 (a b : Byte) : lo16 (le16 a b) = a := by
  ext i hi
  simp only [lo16, le16, BitVec.getElem_extractLsb', BitVec.getLsbD_append]
  simp [hi]

@[simp] theorem hi16_le16 (a b : Byte) : hi16 (le16 a b) = b := by
  ext i hi
  simp only [hi16, le16, BitVec.getElem_extractLsb', BitVec.getLsbD_append]
  simp [hi]

@[simp] theorem le16_lo16_hi16 (w : Word) : le16 (lo16 w) (hi16 w) = w := by
  apply BitVec.eq_of_getLsbD_eq
  intro i hi
  simp only [le16, lo16, hi16, BitVec.getLsbD_append, BitVec.getLsbD_extractLsb']
  by_cases h : i < 8
  · simp [h]
  · simp [h, show i - 8 < 8 by omega, show 8 + (i - 8) = i by omega]

/-- The value of a word from its bytes. -/
theorem toNat_le16 (a b : Byte) : (le16 a b).toNat = a.toNat + 256 * b.toNat := by
  unfold le16
  rw [BitVec.toNat_append, ← Nat.shiftLeft_add_eq_or_of_lt a.isLt, Nat.shiftLeft_eq]
  omega

/-! ### Reading BUF and STAGE -/

/-- BUF reads depend on the written bytes and the draw alone. -/
theorem State.readBuf_congr {s t : State} (hb : t.buf = s.buf) (he : t.epoch = s.epoch) (k : Nat) :
    t.readBuf k = s.readBuf k := by simp [State.readBuf, hb, he]

theorem State.readStage_congr {s t : State} (hb : t.stage = s.stage) (he : t.epoch = s.epoch) (k : Nat) :
    t.readStage k = s.readStage k := by simp [State.readStage, hb, he]

/-- What `BUF[k] <- v` does, read back at any offset. -/
theorem State.readBuf_setBuf (s : State) (k j : Nat) (v : Byte) :
    (s.setBuf k v).readBuf j = if j = k ∧ k < s.cfg.capacity then v else s.readBuf j := by
  simp only [State.readBuf, State.setBuf, Memory.read_store]
  split <;> simp

/-- What a word write does, read back at any offset. -/
theorem State.readBuf_setBufWord (s : State) (k j : Nat) (w : Word) :
    (s.setBufWord k w).readBuf j =
      if j = k + 1 ∧ k + 1 < s.cfg.capacity then hi16 w
      else if j = k ∧ k < s.cfg.capacity then lo16 w else s.readBuf j := by
  simp only [State.setBufWord, State.readBuf_setBuf, State.setBuf_cfg]

/-- What a write of a byte sequence does, read back at any offset. -/
theorem State.readBuf_setBufBytes (s : State) (k j : Nat) (vs : List Byte) :
    (s.setBufBytes k vs).readBuf j =
      if k ≤ j ∧ j < k + vs.length ∧ j < s.cfg.capacity then vs.getD (j - k) 0 else s.readBuf j := by
  simp only [State.readBuf, State.setBufBytes, Memory.read_storeBytes]
  split
  · rename_i h
    have : j - k < vs.length := by omega
    simp [this]
  · rfl

/-- What `STAGE[k] <- v` does, read back at any offset. -/
theorem State.readStage_setStage (s : State) (k j : Nat) (v : Byte) :
    (s.setStage k v).readStage j = if j = k ∧ k < s.cfg.capacity then v else s.readStage j := by
  simp only [State.readStage, State.setStage, Memory.read_store]
  split <;> simp

@[simp] theorem State.readBuf_record (s : State) (r : Response) (k : Nat) :
    (s.record r).readBuf k = s.readBuf k := rfl

@[simp] theorem State.readStage_record (s : State) (r : Response) (k : Nat) :
    (s.record r).readStage k = s.readStage k := rfl

@[simp] theorem State.length_bufPrefix (s : State) (n : Nat) : (s.bufPrefix n).length = n := by
  simp [State.bufPrefix]

@[simp] theorem State.length_stagePrefix (s : State) (n : Nat) : (s.stagePrefix n).length = n := by
  simp [State.stagePrefix]

/-- Byte `i` of `BUF[0..n)`. -/
theorem State.getElem_bufPrefix (s : State) (n i : Nat) (h : i < (s.bufPrefix n).length) :
    (s.bufPrefix n)[i] = s.readBuf i := by simp [State.bufPrefix]

/-- Two states with the same bytes below `n` have the same `BUF[0..n)`. -/
theorem State.bufPrefix_congr {s t : State} {n : Nat} (h : ∀ k < n, t.readBuf k = s.readBuf k) :
    t.bufPrefix n = s.bufPrefix n := by
  apply List.map_congr_left
  intro k hk
  exact h k (List.mem_range.1 hk)

/-! ### The checksum engine -/

/-- The checksum of a sequence does not depend on its bytes 6 and 7 (R123). -/
theorem ckz_congr (ck : Checksum) {x y : List Byte} (hl : x.length = y.length)
    (h : ∀ i (hx : i < x.length) (hy : i < y.length), i ≠ 6 → i ≠ 7 → x[i] = y[i]) : ckz ck x = ckz ck y := by
  unfold ckz
  congr 1
  apply List.ext_getElem
  · simp [hl]
  · intro i h1 h2
    simp only [List.length_set] at h1 h2
    by_cases h7 : i = 7
    · subst h7; simp
    · by_cases h6 : i = 6
      · subst h6; simp
      · simp [Ne.symm h7, Ne.symm h6, h i h1 h2 h6 h7]

/-- Two states whose packet images agree outside bytes 6 and 7 have the same image checksum. -/
theorem State.imageChecksum_congr (ck : Checksum) {s t : State} (hl : t.len = s.len)
    (h : ∀ k < s.len.toNat, k ≠ 6 → k ≠ 7 → t.readBuf k = s.readBuf k) :
    t.imageChecksum ck = s.imageChecksum ck := by
  unfold State.imageChecksum
  rw [hl]
  apply ckz_congr
  · simp
  · intro i hx hy h6 h7
    rw [State.getElem_bufPrefix, State.getElem_bufPrefix]
    exact h i (by simpa using hy) h6 h7

/-- What sealing a packet leaves in BUF: the checksum in bytes 6 and 7, every other byte as it was. -/
theorem State.readBuf_sealChecksum (ck : Checksum) (s : State) (j : Nat) :
    (s.sealChecksum ck).readBuf j =
      if j = 7 then hi16 (s.imageChecksum ck) else if j = 6 then lo16 (s.imageChecksum ck) else s.readBuf j := by
  have h8 := s.cfg.eight_le_capacity
  have : (s.sealChecksum ck).readBuf j = (s.setBufWord 6 (s.imageChecksum ck)).readBuf j := rfl
  rw [this, State.readBuf_setBufWord]
  simp [show 6 + 1 < s.cfg.capacity by omega, show 6 < s.cfg.capacity by omega]

@[simp] theorem State.imageChecksum_sealChecksum (ck : Checksum) (s : State) :
    (s.sealChecksum ck).imageChecksum ck = s.imageChecksum ck := by
  apply State.imageChecksum_congr ck (s := s) (t := s.sealChecksum ck) rfl
  intro k _ h6 h7
  simp [State.readBuf_sealChecksum, h6, h7]

@[simp] theorem State.storedChecksum_sealChecksum (ck : Checksum) (s : State) :
    (s.sealChecksum ck).storedChecksum = s.imageChecksum ck := by
  simp [State.storedChecksum, State.readBufWord, State.readBuf_sealChecksum]

/-! ### Answering -/

@[simp] theorem State.reply_fst (s : State) (st : Status) (d : DWord) : (s.reply st d).1 = s := rfl

@[simp] theorem State.reply_snd (s : State) (st : Status) (d : DWord) :
    (s.reply st d).2 = { status := st, acc := false, data := d } := rfl

/-- The end of a transaction is always a next state: the reply's, with its response recorded. -/
theorem finish_eq (r : Reply) : finish r = .next (r.1.record r.2) := rfl

theorem finish_next_iff (r : Reply) (t : State) : finish r = .next t ↔ t = r.1.record r.2 := by
  rw [finish_eq]
  constructor
  · intro h; cases h; rfl
  · rintro rfl; rfl

theorem onlyFor_self {k : Kind} {s : State} (r : Reply) (h : s.cfg.kind = k) : onlyFor k s r = r := by
  simp [onlyFor, h]

theorem onlyFor_other {k : Kind} {s : State} (r : Reply) (h : s.cfg.kind ≠ k) :
    onlyFor k s r = s.reply .badCommand := by simp [onlyFor, h]

end Sys2Proof.Machine
end

