-- ==== Sys2Proof/Laws/Packet.lean ====
section
/-! SUPPORT. For each operation the packet instructions share, one lemma that lists all it can answer. -/

namespace Sys2Proof.Machine

/-- The length part of FINALIZE, where it succeeds (R173, R212). -/
theorem finalizeLength_ok_iff {s s' : State} :
    finalizeLength s = .ok s' ↔
      (s.cfg.kind = .cmd ∧ s' = s.setBuf 3 (BitVec.ofNat 8 s.payloadLen)) ∨
      (s.cfg.kind = .tlm ∧ (∃ e, s.schemaEntry = some e ∧ e.lenOK s.payloadLen = true) ∧
        s' = s.setBufWord 4 (BitVec.ofNat 16 s.payloadLen)) := by
  unfold finalizeLength tlmFinalizeLength
  cases hk : s.cfg.kind with
  | cmd => simpa using eq_comm
  | tlm =>
    cases he : s.schemaEntry with
    | none => simp
    | some e => cases hl : e.lenOK s.payloadLen <;> simp [hl]; exact eq_comm

/-- The length part of FINALIZE, where it refuses (R212). -/
theorem finalizeLength_error_iff {s : State} {st : Status} :
    finalizeLength s = .error st ↔
      s.cfg.kind = .tlm ∧ ((s.schemaEntry = none ∧ st = .unknownType) ∨
        ∃ e, s.schemaEntry = some e ∧ e.lenOK s.payloadLen = false ∧ st = .lengthError) := by
  unfold finalizeLength tlmFinalizeLength
  cases hk : s.cfg.kind with
  | cmd => simp
  | tlm =>
    cases he : s.schemaEntry with
    | none => simpa using eq_comm
    | some e => cases hl : e.lenOK s.payloadLen <;> simp [hl]; exact eq_comm

/-- FINALIZE's length part changes bytes of BUF alone. -/
theorem finalizeLength_frame {s s' : State} (h : finalizeLength s = .ok s') : s' = { s with buf := s'.buf } := by
  rcases finalizeLength_ok_iff.1 h with ⟨-, rfl⟩ | ⟨-, -, rfl⟩ <;> rfl

/-- BUF after the length part of FINALIZE, read at any offset. -/
theorem readBuf_finalizeLength {s s' : State} (h : finalizeLength s = .ok s') (k : Nat) :
    s'.readBuf k = match s.cfg.kind with
      | .cmd => if k = 3 then BitVec.ofNat 8 s.payloadLen else s.readBuf k
      | .tlm =>
        if k = 5 then hi16 (BitVec.ofNat 16 s.payloadLen)
        else if k = 4 then lo16 (BitVec.ofNat 16 s.payloadLen) else s.readBuf k := by
  have h8 := s.cfg.eight_le_capacity
  rcases finalizeLength_ok_iff.1 h with ⟨hk, rfl⟩ | ⟨hk, -, rfl⟩ <;> rw [hk] <;> dsimp only
  · rw [State.readBuf_setBuf]
    simp [show 3 < s.cfg.capacity by omega]
  · rw [State.readBuf_setBufWord]
    simp [show 4 < s.cfg.capacity by omega, show 5 < s.cfg.capacity by omega]

/-- All FINALIZE can answer (R173). -/
theorem finalize_cases (ck : Checksum) (s : State) :
    (s.txopen = false ∧ finalize ck s = s.reply .noPacket) ∨
    (s.txopen = true ∧ ∃ st, finalizeLength s = .error st ∧ finalize ck s = s.reply st) ∨
    (s.txopen = true ∧ ∃ s', finalizeLength s = .ok s' ∧
      finalize ck s = (s'.sealChecksum ck).reply .ok ((s'.imageChecksum ck).setWidth 32)) := by
  unfold finalize finalizeBody
  cases s.txopen
  · simp
  · rcases finalizeLength s with st | s' <;> simp [Except.map]

/-- All SEND can answer (R174). -/
theorem send_cases (ck : Checksum) (s : State) :
    (s.txopen = false ∧ send ck s = s.reply .noPacket) ∨
    (s.txopen = true ∧ ∃ st, finalizeLength s = .error st ∧ send ck s = s.reply st) ∨
    (s.txopen = true ∧ ∃ s', finalizeLength s = .ok s' ∧
      send ck s = ({ s'.sealChecksum ck with
        txout := s'.txout ++ (s'.sealChecksum ck).bufPrefix s'.len.toNat }.reply .ok (s'.len.setWidth 32))) := by
  unfold send finalizeBody
  cases s.txopen
  · simp
  · rcases finalizeLength s with st | s' <;> simp [Except.map]

/-- All SET_CHECKSUM can answer (R125). -/
theorem setChecksum_cases (ck : Checksum) (s : State) :
    (s.packetPresent = false ∧ setChecksum ck s = s.reply .noPacket) ∨
    (s.packetPresent = true ∧
      setChecksum ck s = (s.sealChecksum ck).reply .ok ((s.imageChecksum ck).setWidth 32)) := by
  unfold setChecksum
  cases s.packetPresent <;> simp

/-- All VERIFY_CHECKSUM can answer: the state never changes (R126). -/
theorem verifyChecksum_cases (ck : Checksum) (s : State) :
    (s.packetPresent = false ∧ verifyChecksum ck s = s.reply .noPacket) ∨
    (s.packetPresent = true ∧ s.imageChecksum ck = s.storedChecksum ∧
      verifyChecksum ck s = s.reply .ok ((s.imageChecksum ck).setWidth 32)) ∨
    (s.packetPresent = true ∧ s.imageChecksum ck ≠ s.storedChecksum ∧
      verifyChecksum ck s = s.reply .crcError ((s.imageChecksum ck).setWidth 32)) := by
  unfold verifyChecksum
  cases s.packetPresent
  · simp
  · by_cases h : s.imageChecksum ck = s.storedChecksum <;> simp [h]

/-- All WRITE_BYTE and WRITE_WORD can answer (R145, R146). -/
theorem State.writeAt_cases (s : State) (offset : DWord) (k : Nat) (written : State) :
    (s.txopen = false ∧ s.writeAt offset k written = s.reply .noPacket) ∨
    (s.txopen = true ∧ s.cfg.capacity < offset.toNat + k ∧
      s.writeAt offset k written = s.reply .outOfRange) ∨
    (s.txopen = true ∧ offset.toNat + k ≤ s.cfg.capacity ∧
      s.writeAt offset k written = { written with altered := true }.reply .ok) := by
  unfold State.writeAt State.inRange
  cases s.txopen
  · simp
  · by_cases h : offset.toNat + k ≤ s.cfg.capacity
    · simp [h]
    · simp [h, Nat.lt_of_not_le h]

/-- All GET_WORD and PEEK_WORD can answer (R148, R149). -/
theorem State.readCursor_cases (s : State) (next : BitVec 16) :
    (s.completed = false ∧ s.readCursor next = s.reply .notCompleted) ∨
    (s.completed = true ∧ s.declared < 2 * s.ridx.toNat + 2 ∧ s.readCursor next = s.reply .endOfPacket) ∨
    (s.completed = true ∧ 2 * s.ridx.toNat + 2 ≤ s.declared ∧
      s.readCursor next = { s with ridx := next }.reply .ok ((s.readBufWord s.cursorOffset).setWidth 32)) := by
  unfold State.readCursor State.readSpace
  cases s.completed
  · simp
  · by_cases h : 2 * s.ridx.toNat + 2 ≤ s.declared
    · simp [h]
    · simp [h, Nat.lt_of_not_le h]

/-- All SET_TARGET can answer on a command instance (R171). -/
theorem setTarget_cases (id : Byte) (s : State) :
    (s.txopen = false ∧ setTarget id s = s.reply .noPacket) ∨
    (s.txopen = true ∧ setTarget id s = { s.setBuf 2 id with altered := true }.reply .ok) := by
  unfold setTarget
  cases s.txopen <;> simp

/-- All ADD_WORD can answer on a command instance (R172). -/
theorem addWord_cases (w : Word) (s : State) :
    (s.txopen = false ∧ addWord w s = s.reply .noPacket) ∨
    (s.txopen = true ∧ (s.cfg.capacity < s.len.toNat + 2 ∨ s.cfg.cmdMaxPayload ≤ s.payloadLen + 2) ∧
      addWord w s = s.reply .bufferFull) ∨
    (s.txopen = true ∧ s.len.toNat + 2 ≤ s.cfg.capacity ∧ s.payloadLen + 2 < s.cfg.cmdMaxPayload ∧
      addWord w s =
        ({ (s.appendWord w).setBuf 3 (BitVec.ofNat 8 (s.appendWord w).payloadLen) with altered := true }.reply .ok)) := by
  unfold addWord State.writeSpace
  cases s.txopen
  · simp
  · by_cases h : s.len.toNat + 2 ≤ s.cfg.capacity
    · by_cases h2 : s.cfg.cmdMaxPayload ≤ s.payloadLen + 2
      · simp [h, h2]
      · simp [h, h2, Nat.lt_of_not_le h2]
    · simp [h, Nat.lt_of_not_le h]

/-- All CHECK_BUFFER can answer on a command instance (R169). -/
theorem checkBuffer_cases (ck : Checksum) (words : DWord) (s : State) :
    (∃ st, checkBufferError ck (2 * words.toNat) s = some st ∧ checkBuffer ck words s = s.reply st) ∨
    (checkBufferError ck (2 * words.toNat) s = none ∧ checkBuffer ck words s =
      ({ s.setBufBytes 0 (s.stagePrefix (2 * words.toNat)) with
        len := BitVec.ofNat 17 (2 * words.toNat), completed := true, txopen := false, hold := false, ridx := 0,
        altered := false, ev := s.ev ||| 0b01 }.reply .ok)) := by
  unfold checkBuffer
  cases h : checkBufferError ck (2 * words.toNat) s <;> simp [h]

/-- The image CHECK_BUFFER accepts (R169). -/
theorem checkBufferError_eq_none_iff (ck : Checksum) (n : Nat) (s : State) :
    checkBufferError ck n s = none ↔
      8 ≤ n ∧ n ≤ s.cfg.capacity ∧ s.readStage 0 = 0x9A ∧ s.readStage 1 = 0xC3 ∧
      (s.readStage 3).toNat < s.cfg.cmdMaxPayload ∧ 8 + (s.readStage 3).toNat = n ∧
      ckz ck (s.stagePrefix n) = s.readStageWord 6 := by
  unfold checkBufferError
  by_cases h1 : s.cfg.capacity < n ∨ n < 8
  · simp only [if_pos h1, reduceCtorEq, false_iff]
    omega
  · have h1' : 8 ≤ n ∧ n ≤ s.cfg.capacity := by omega
    simp only [if_neg h1, ite_eq_iff, reduceCtorEq, and_false, false_or, and_true, not_or, not_not, not_le]
    tauto

/-- All CREATE can answer on a telemetry instance (R209). -/
theorem create_cases (t : Byte) (s : State) :
    (s.cfg.schemaAt t = none ∧ create t s = s.reply .unknownType) ∨
    (∃ e, s.cfg.schemaAt t = some e ∧
      create t s = ((s.setBufBytes 0 (telemetryHeader t s.cfg.sourceId)).openOutput 16).reply .ok) := by
  unfold create
  cases h : s.cfg.schemaAt t <;> simp

/-- All APPEND_BYTE and APPEND_WORD can answer on a telemetry instance (R210, R211). -/
theorem appendChecked_cases (k : Nat) (s appended : State) :
    (s.txopen = false ∧ appendChecked k s appended = s.reply .noPacket) ∨
    (s.txopen = true ∧ s.schemaEntry = none ∧ appendChecked k s appended = s.reply .unknownType) ∨
    (∃ e, s.txopen = true ∧ s.schemaEntry = some e ∧
      (s.cfg.capacity < s.len.toNat + k ∨ e.len < s.payloadLen + k) ∧
      appendChecked k s appended = s.reply .bufferFull) ∨
    (∃ e, s.txopen = true ∧ s.schemaEntry = some e ∧ s.len.toNat + k ≤ s.cfg.capacity ∧
      s.payloadLen + k ≤ e.len ∧ appendChecked k s appended =
        ({ appended.setBufWord 4 (BitVec.ofNat 16 appended.payloadLen) with altered := true }.reply .ok)) := by
  unfold appendChecked State.writeSpace
  cases s.txopen
  · simp
  · cases s.schemaEntry with
    | none => simp
    | some e =>
      by_cases h : s.len.toNat + k ≤ s.cfg.capacity
      · by_cases h2 : e.len < s.payloadLen + k
        · simp [h, h2]
        · simp [h, h2, Nat.le_of_not_lt h2]
      · simp [h, Nat.lt_of_not_le h]

end Sys2Proof.Machine
end

