-- ==== Sys2Proof/Laws/Feed.lean ====
section
/-! SUPPORT. What FEED can do: one lemma for each part of the reassembly machines, and the four outcomes
of a step (spec/42_command_packet.md R160 to R168, spec/43_telemetry_packet.md R200 to R207). -/

namespace Sys2Proof.Machine

/-! ### A step of the state machine -/

/-- All a step of a reassembly machine from `s` with byte `b` can do to the state: the byte at offset LEN, and
LEN. Its status is INCOMPLETE or OK with the byte consumed, or a framing error with LEN = 0. Without an error
LEN is one more, but for a byte dropped while hunting. -/
structure StepShape (s : State) (b : Byte) (r : FsmStep) : Prop where
  frame : r.state = { s with buf := r.state.buf, len := r.state.len }
  bytes : ∀ k, k ≠ s.len.toNat → r.state.readBuf k = s.readBuf k
  canonical : s.buf.wf s.cfg.capacity = true → r.state.buf.wf s.cfg.capacity = true
  outcome : (r.status = .incomplete ∧ r.acc = true) ∨ (r.status = .ok ∧ r.acc = true) ∨
    (r.status.isFraming = true ∧ r.state.len = 0)
  length : r.status.isFraming = true ∨ r.state.len = s.len + 1 ∨
    (s.len = 0 ∧ b ≠ 0x9A ∧ r.status = .incomplete ∧ r.state = s)

theorem takeByte_shape (s : State) (b : Byte) {k : Nat} (hk : s.len.toNat = k) :
    StepShape s b (takeByte s k b) where
  frame := rfl
  bytes j hj := by
    have : (takeByte s k b).state.readBuf j = (s.setBuf k b).readBuf j := rfl
    rw [this, State.readBuf_setBuf, if_neg (by omega)]
  canonical h := Memory.wf_store _ _ h
  outcome := .inl ⟨rfl, rfl⟩
  length := .inr (.inl (by subst hk; apply BitVec.eq_of_toNat_eq; simp [takeByte]))

theorem refuseByte_shape (s : State) (b : Byte) {st : Status} (h : st.isFraming = true) :
    StepShape s b (refuseByte s st) where
  frame := rfl
  bytes _ _ := rfl
  canonical h := h
  outcome := .inr (.inr ⟨h, rfl⟩)
  length := .inl h

theorem huntStep_shape (s : State) (b : Byte) (h : s.len.toNat = 0) : StepShape s b (huntStep b s) := by
  unfold huntStep
  split
  · exact takeByte_shape s b h
  · exact ⟨rfl, fun _ _ => rfl, id, .inl ⟨rfl, rfl⟩, .inr (.inr ⟨BitVec.eq_of_toNat_eq h, ‹_›, rfl, rfl⟩)⟩

theorem syncStep_shape (s : State) (b : Byte) (h : s.len.toNat = 1) : StepShape s b (syncStep b s) := by
  unfold syncStep
  split
  · exact takeByte_shape s b h
  · exact refuseByte_shape s b rfl

/-- Reading BUF after `BUF[LEN] <- b; LEN <- LEN + 1`. -/
theorem State.readBuf_append (s : State) (b : Byte) (j : Nat) :
    (s.append b).readBuf j = if j = s.len.toNat ∧ s.len.toNat < s.cfg.capacity then b else s.readBuf j := by
  rw [← State.readBuf_setBuf]
  rfl

theorem bodyStep_shape (ck : Checksum) (s : State) (b : Byte) (extent : Nat) :
    StepShape s b (bodyStep ck extent (s.append b)) := by
  have hb : ∀ j, j ≠ s.len.toNat → (s.append b).readBuf j = s.readBuf j := by
    intro j hj
    rw [State.readBuf_append, if_neg (by omega)]
  have hw : s.buf.wf s.cfg.capacity = true → (s.append b).buf.wf s.cfg.capacity = true := Memory.wf_store _ _
  unfold bodyStep
  split
  · split
    · exact ⟨rfl, hb, hw, .inr (.inl ⟨rfl, rfl⟩), .inr (.inl rfl)⟩
    · exact ⟨rfl, hb, hw, .inr (.inr ⟨rfl, rfl⟩), .inl rfl⟩
  · exact ⟨rfl, hb, hw, .inl ⟨rfl, rfl⟩, .inr (.inl rfl)⟩

theorem cmdStep_shape (ck : Checksum) (b : Byte) (s : State) : StepShape s b (cmdStep ck b s) := by
  unfold cmdStep
  split
  · exact huntStep_shape s b ‹_›
  · exact syncStep_shape s b ‹_›
  · exact takeByte_shape s b ‹_›
  · split
    · exact refuseByte_shape s b rfl
    · exact takeByte_shape s b ‹_›
  · exact bodyStep_shape ck s b _

theorem tlmStep_shape (ck : Checksum) (b : Byte) (s : State) : StepShape s b (tlmStep ck b s) := by
  unfold tlmStep
  split
  · exact huntStep_shape s b ‹_›
  · exact syncStep_shape s b ‹_›
  · split
    · exact refuseByte_shape s b rfl
    · exact takeByte_shape s b ‹_›
  · exact takeByte_shape s b ‹_›
  · exact takeByte_shape s b ‹_›
  · unfold tlmLengthStep
    split
    · exact refuseByte_shape s b rfl
    · split
      · exact takeByte_shape s b ‹_›
      · exact refuseByte_shape s b rfl
  · exact bodyStep_shape ck s b _

/-- All a step of either machine can do. -/
theorem fsmStep_shape (ck : Checksum) (b : Byte) (s : State) : StepShape s b (fsmStep ck b s) := by
  unfold fsmStep
  split
  · exact cmdStep_shape ck b s
  · exact tlmStep_shape ck b s

/-! ### What follows the step (R160, R167, R168) -/

@[simp] theorem State.afterStep_incomplete (s : State) :
    s.afterStep .incomplete = { s with lastfeed := .incomplete } := by
  simp [State.afterStep, Status.isFraming]

theorem State.afterStep_framing (s : State) {st : Status} (h : st.isFraming = true) :
    s.afterStep st = { s with lastfeed := st }.framingError := by
  have : st ≠ .ok := by rintro rfl; simp [Status.isFraming] at h
  simp [State.afterStep, h, this]

@[simp] theorem State.afterStep_ok (s : State) : s.afterStep .ok = { s with lastfeed := .ok }.completion := by
  simp [State.afterStep, Status.isFraming]

/-! ### FEED (R160) -/

/-- FEED answers HELD, with nothing changed, while an output packet, a completed packet or a hold is there. -/
theorem feed_held (ck : Checksum) (b : Byte) {s : State} (h : s.feedHeld = true) : feed ck b s = s.reply .held := by
  simp [feed, h]

/-- Otherwise it takes the step and its effects. -/
theorem feed_step (ck : Checksum) (b : Byte) {s : State} (h : s.feedHeld = false) :
    feed ck b s = ((fsmStep ck b s).state.afterStep (fsmStep ck b s).status,
      { status := (fsmStep ck b s).status, acc := (fsmStep ck b s).acc, data := 0 }) := by
  simp [feed, h]

theorem State.feedHeld_iff (s : State) :
    s.feedHeld = true ↔ s.txopen = true ∨ s.completed = true ∨ s.hold = true := by
  simp [State.feedHeld, or_assoc]

theorem State.feedHeld_eq_false_iff (s : State) :
    s.feedHeld = false ↔ s.txopen = false ∧ s.completed = false ∧ s.hold = false := by
  simp [State.feedHeld, and_assoc]

end Sys2Proof.Machine
end

