-- ==== Sys2Proof/Laws/Step.lean ====
section
/-! SUPPORT. What a step can do, said once. -/

namespace Sys2Proof.Machine

/-- A step that answers a next state found nothing at the port, or RST, or a request; a request that
decodes ran, and one that does not was answered BAD_COMMAND. -/
theorem step_cases {s t : State} (h : step s = .next t) :
    s.cfg.valid = true ∧
    ((s.pending = [] ∧ t = s) ∨
     (∃ rest, s.pending = .rst :: rest ∧ t = { s with pending := rest }.applyRst) ∨
     (∃ w rest i, s.pending = .request w :: rest ∧ decode w = .ok i ∧
       exec i { s with pending := rest } = .next t) ∨
     (∃ w rest e, s.pending = .request w :: rest ∧ decode w = .error e ∧
       t = { s with pending := rest }.record { status := .badCommand, acc := false, data := 0 })) := by
  unfold step takeInput at h
  cases hv : s.cfg.valid with
  | false => simp [hv] at h
  | true =>
    refine ⟨rfl, ?_⟩
    simp only [hv, if_true] at h
    rcases hp : s.pending with _ | ⟨_ | _, rest⟩
    · simp only [hp] at h
      cases h
      exact .inl ⟨rfl, rfl⟩
    · rename_i w
      rcases hd : decode w with e | i
      · simp only [hp, hd, rejectRequest, finish_next_iff] at h
        exact .inr (.inr (.inr ⟨w, rest, e, rfl, hd, h⟩))
      · simp only [hp, hd] at h
        exact .inr (.inr (.inl ⟨w, rest, i, rfl, hd, h⟩))
    · simp only [hp] at h
      cases h
      exact .inr (.inl ⟨rest, rfl, rfl⟩)

end Sys2Proof.Machine
end

