-- ==== Sys2Proof/Laws/Exec.lean ====
section
/-! SUPPORT. All an instruction can do, said once over the named updates: `exec_effect`. Invariants and
frames are proved from its cases, without unfolding a meaning. -/

namespace Sys2Proof.Machine

theorem onlyFor_cases (k : Kind) (s : State) (r : Reply) :
    (s.cfg.kind = k ∧ onlyFor k s r = r) ∨ (s.cfg.kind ≠ k ∧ onlyFor k s r = s.reply .badCommand) := by
  by_cases h : s.cfg.kind = k
  · exact .inl ⟨h, onlyFor_self r h⟩
  · exact .inr ⟨h, onlyFor_other r h⟩

/-- The replies an instruction can lead to from `s`: `kept` where the state stays, else one constructor for
each way the instruction changes it, with what holds then. -/
inductive Effect (s : State) : Instr → Reply → Prop where
  /-- the state stays: a read, or an instruction turned away -/
  | kept (i : Instr) (st : Status) (d : DWord) (hi : ∀ b, i = .feed b → st = .held) : Effect s i (s.reply st d)
  | reset : Effect s .reset (s.softReset.reply .ok)
  | clrHold : Effect s .clrHold (s.releaseHold.reply .ok)
  | wrCtrl (v : BitVec 3) : Effect s (.wrCtrl v) ({ s with ctrl := v }.reply .ok)
  | ackEv (m : BitVec 2) : Effect s (.ackEv m) ({ s with ev := s.ev &&& ~~~m }.reply .ok)
  | clrErrcnt : Effect s .clrErrcnt ({ s with errcnt := 0 }.reply .ok)
  | feed (b : Byte) (h : s.feedHeld = false) :
      Effect s (.feed b) ((fsmStep Config.ck b s).state.afterStep (fsmStep Config.ck b s).status,
        { status := (fsmStep Config.ck b s).status, acc := (fsmStep Config.ck b s).acc, data := 0 })
  | getWord (hc : s.completed = true) (hr : 2 * s.ridx.toNat + 2 ≤ s.declared) :
      Effect s .getWord ({ s with ridx := s.ridx + 1 }.reply .ok ((s.readBufWord s.cursorOffset).setWidth 32))
  | writeByte (o : DWord) (v : Byte) (ht : s.txopen = true) (ho : o.toNat + 1 ≤ s.cfg.capacity) :
      Effect s (.writeByte o v) ({ s.setBuf o.toNat v with altered := true }.reply .ok)
  | writeWord (o : DWord) (w : Word) (ht : s.txopen = true) (ho : o.toNat + 2 ≤ s.cfg.capacity) :
      Effect s (.writeWord o w) ({ s.setBufWord o.toNat w with altered := true }.reply .ok)
  | stageWrite (o : DWord) (v : Byte) (ho : o.toNat + 1 ≤ s.cfg.capacity) :
      Effect s (.stageWrite o v) ((s.setStage o.toNat v).reply .ok)
  | setChecksum (hp : s.packetPresent = true) :
      Effect s .setChecksum ((s.sealChecksum Config.ck).reply .ok ((s.imageChecksum Config.ck).setWidth 32))
  | finalize (s' : State) (ht : s.txopen = true) (hl : finalizeLength s = .ok s') :
      Effect s .finalize ((s'.sealChecksum Config.ck).reply .ok ((s'.imageChecksum Config.ck).setWidth 32))
  | send (s' : State) (ht : s.txopen = true) (hl : finalizeLength s = .ok s') :
      Effect s .send ({ s'.sealChecksum Config.ck with
        txout := s'.txout ++ (s'.sealChecksum Config.ck).bufPrefix s'.len.toNat }.reply .ok (s'.len.setWidth 32))
  | resetOutput (hk : s.cfg.kind = .cmd) : Effect s .resetOutput (resetOutput s)
  | setTarget (id : Byte) (hk : s.cfg.kind = .cmd) (ht : s.txopen = true) :
      Effect s (.setTarget id) ({ s.setBuf 2 id with altered := true }.reply .ok)
  | addWord (w : Word) (hk : s.cfg.kind = .cmd) (ht : s.txopen = true) (hc : s.len.toNat + 2 ≤ s.cfg.capacity)
      (hm : s.payloadLen + 2 < s.cfg.cmdMaxPayload) :
      Effect s (.addWord w)
        ({ (s.appendWord w).setBuf 3 (BitVec.ofNat 8 (s.appendWord w).payloadLen) with altered := true }.reply .ok)
  | checkBuffer (n : DWord) (hk : s.cfg.kind = .cmd) (hn : checkBufferError Config.ck (2 * n.toNat) s = none) :
      Effect s (.checkBuffer n)
        ({ s.setBufBytes 0 (s.stagePrefix (2 * n.toNat)) with
          len := BitVec.ofNat 17 (2 * n.toNat), completed := true, txopen := false, hold := false, ridx := 0,
          altered := false, ev := s.ev ||| 0b01 }.reply .ok)
  | create (t : Byte) (e : SchemaEntry) (hk : s.cfg.kind = .tlm) (he : s.cfg.schemaAt t = some e) :
      Effect s (.create t) (((s.setBufBytes 0 (telemetryHeader t s.cfg.sourceId)).openOutput 16).reply .ok)
  | appendByte (v : Byte) (e : SchemaEntry) (hk : s.cfg.kind = .tlm) (ht : s.txopen = true)
      (he : s.schemaEntry = some e) (hc : s.len.toNat + 1 ≤ s.cfg.capacity) (hm : s.payloadLen + 1 ≤ e.len) :
      Effect s (.appendByte v)
        ({ (s.append v).setBufWord 4 (BitVec.ofNat 16 (s.append v).payloadLen) with altered := true }.reply .ok)
  | appendWord (w : Word) (e : SchemaEntry) (hk : s.cfg.kind = .tlm) (ht : s.txopen = true)
      (he : s.schemaEntry = some e) (hc : s.len.toNat + 2 ≤ s.cfg.capacity) (hm : s.payloadLen + 2 ≤ e.len) :
      Effect s (.appendWord w)
        ({ (s.appendWord w).setBufWord 4 (BitVec.ofNat 16 (s.appendWord w).payloadLen) with
          altered := true }.reply .ok)

/-- A reply that leaves the state, of an instruction that is no FEED. -/
theorem Effect.stays (s : State) {i : Instr} (st : Status) (d : DWord) (hi : ∀ b, i ≠ .feed b) :
    Effect s i (s.reply st d) :=
  .kept i st d (fun b h => absurd h (hi b))

/-- Every instruction answers, and its reply is one of the effects above. -/
theorem exec_effect (i : Instr) (s : State) : ∃ r, exec i s = finish r ∧ Effect s i r := by
  cases i <;> refine ⟨_, rfl, ?_⟩
  case nop => exact .stays s _ _ (by simp)
  case reset => exact .reset
  case feed b =>
    by_cases h : s.feedHeld = true
    · rw [feed_held _ _ h]
      exact .kept _ _ _ (fun _ _ => rfl)
    · rw [feed_step _ _ (by simpa using h)]
      exact .feed b (by simpa using h)
  case clrHold => exact .clrHold
  case wrCtrl v => exact .wrCtrl v
  case rdReg r => cases s.register r.toNat <;> exact .stays s _ _ (by simp)
  case ackEv m => exact .ackEv m
  case clrErrcnt => exact .clrErrcnt
  case getWord =>
    rcases s.readCursor_cases (s.ridx + 1) with ⟨-, h⟩ | ⟨-, -, h⟩ | ⟨hc, hr, h⟩ <;> rw [h]
    · exact .stays s _ _ (by simp)
    · exact .stays s _ _ (by simp)
    · exact .getWord hc hr
  case peekWord =>
    rcases s.readCursor_cases s.ridx with ⟨-, h⟩ | ⟨-, -, h⟩ | ⟨-, -, h⟩ <;> rw [h] <;>
      exact .stays s _ _ (by simp)
  case readByte o => split <;> exact .stays s _ _ (by simp)
  case readWord o => split <;> exact .stays s _ _ (by simp)
  case writeByte o v =>
    rcases s.writeAt_cases o 1 (s.setBuf o.toNat v) with ⟨-, h⟩ | ⟨-, -, h⟩ | ⟨ht, ho, h⟩ <;> rw [h]
    · exact .stays s _ _ (by simp)
    · exact .stays s _ _ (by simp)
    · exact .writeByte o v ht ho
  case writeWord o w =>
    rcases s.writeAt_cases o 2 (s.setBufWord o.toNat w) with ⟨-, h⟩ | ⟨-, -, h⟩ | ⟨ht, ho, h⟩ <;> rw [h]
    · exact .stays s _ _ (by simp)
    · exact .stays s _ _ (by simp)
    · exact .writeWord o w ht ho
  case stageWrite o v =>
    split
    · rename_i h
      exact .stageWrite o v (by simpa [State.inRange] using h)
    · exact .stays s _ _ (by simp)
  case setChecksum =>
    rcases setChecksum_cases Config.ck s with ⟨-, h⟩ | ⟨hp, h⟩ <;> rw [h]
    · exact .stays s _ _ (by simp)
    · exact .setChecksum hp
  case verifyChecksum =>
    rcases verifyChecksum_cases Config.ck s with ⟨-, h⟩ | ⟨-, -, h⟩ | ⟨-, -, h⟩ <;> rw [h] <;>
      exact .stays s _ _ (by simp)
  case finalize =>
    rcases finalize_cases Config.ck s with ⟨-, h⟩ | ⟨-, _, -, h⟩ | ⟨ht, s', hl, h⟩ <;> rw [h]
    · exact .stays s _ _ (by simp)
    · exact .stays s _ _ (by simp)
    · exact .finalize s' ht hl
  case send =>
    rcases send_cases Config.ck s with ⟨-, h⟩ | ⟨-, _, -, h⟩ | ⟨ht, s', hl, h⟩ <;> rw [h]
    · exact .stays s _ _ (by simp)
    · exact .stays s _ _ (by simp)
    · exact .send s' ht hl
  case resetOutput =>
    rcases onlyFor_cases .cmd s (resetOutput s) with ⟨hk, h⟩ | ⟨-, h⟩ <;> rw [h]
    · exact .resetOutput hk
    · exact .stays s _ _ (by simp)
  case setTarget id =>
    rcases onlyFor_cases .cmd s (setTarget id s) with ⟨hk, h⟩ | ⟨-, h⟩ <;> rw [h]
    · rcases setTarget_cases id s with ⟨-, h⟩ | ⟨ht, h⟩ <;> rw [h]
      · exact .stays s _ _ (by simp)
      · exact .setTarget id hk ht
    · exact .stays s _ _ (by simp)
  case addWord w =>
    rcases onlyFor_cases .cmd s (addWord w s) with ⟨hk, h⟩ | ⟨-, h⟩ <;> rw [h]
    · rcases addWord_cases w s with ⟨-, h⟩ | ⟨-, -, h⟩ | ⟨ht, hc, hm, h⟩ <;> rw [h]
      · exact .stays s _ _ (by simp)
      · exact .stays s _ _ (by simp)
      · exact .addWord w hk ht hc hm
    · exact .stays s _ _ (by simp)
  case checkBuffer n =>
    rcases onlyFor_cases .cmd s (checkBuffer Config.ck n s) with ⟨hk, h⟩ | ⟨-, h⟩ <;> rw [h]
    · rcases checkBuffer_cases Config.ck n s with ⟨_, -, h⟩ | ⟨hn, h⟩ <;> rw [h]
      · exact .stays s _ _ (by simp)
      · exact .checkBuffer n hk hn
    · exact .stays s _ _ (by simp)
  case create t =>
    rcases onlyFor_cases .tlm s (create t s) with ⟨hk, h⟩ | ⟨-, h⟩ <;> rw [h]
    · rcases create_cases t s with ⟨-, h⟩ | ⟨e, he, h⟩ <;> rw [h]
      · exact .stays s _ _ (by simp)
      · exact .create t e hk he
    · exact .stays s _ _ (by simp)
  case appendByte v =>
    rcases onlyFor_cases .tlm s (appendByte v s) with ⟨hk, h⟩ | ⟨-, h⟩ <;> rw [h]
    · rcases appendChecked_cases 1 s (s.append v) with ⟨-, h⟩ | ⟨-, -, h⟩ | ⟨_, -, -, -, h⟩ | ⟨e, ht, he, hc, hm, h⟩ <;>
        rw [show appendByte v s = appendChecked 1 s (s.append v) from rfl, h]
      · exact .stays s _ _ (by simp)
      · exact .stays s _ _ (by simp)
      · exact .stays s _ _ (by simp)
      · exact .appendByte v e hk ht he hc hm
    · exact .stays s _ _ (by simp)
  case appendWord w =>
    rcases onlyFor_cases .tlm s (appendWord w s) with ⟨hk, h⟩ | ⟨-, h⟩ <;> rw [h]
    · rcases appendChecked_cases 2 s (s.appendWord w) with ⟨-, h⟩ | ⟨-, -, h⟩ | ⟨_, -, -, -, h⟩ | ⟨e, ht, he, hc, hm, h⟩ <;>
        rw [show appendWord w s = appendChecked 2 s (s.appendWord w) from rfl, h]
      · exact .stays s _ _ (by simp)
      · exact .stays s _ _ (by simp)
      · exact .stays s _ _ (by simp)
      · exact .appendWord w e hk ht he hc hm
    · exact .stays s _ _ (by simp)
  case verifyBuffer n =>
    rcases onlyFor_cases .tlm s (verifyBuffer Config.ck n s) with ⟨-, h⟩ | ⟨-, h⟩ <;> rw [h] <;>
      exact .stays s _ _ (by simp)

/-- Where an instruction's next state comes from. -/
theorem exec_next {i : Instr} {s t : State} (h : exec i s = .next t) :
    ∃ r, Effect s i r ∧ t = r.1.record r.2 := by
  obtain ⟨r, hr, he⟩ := exec_effect i s
  rw [hr, finish_next_iff] at h
  exact ⟨r, he, h⟩

end Sys2Proof.Machine
end

