-- ==== Sys2Proof/Laws/Invariants.lean ====
section
/-! SUPPORT. What the invariants of spec/10_state.md R46 depend on, and the short forms they take in a
state that hunts and in an output packet. -/

namespace Sys2Proof.Machine

/-- The invariants are about the configuration, the bytes of BUF, LEN, the three flags and RIDX. -/
theorem Invariants.congr {ck : Checksum} {s t : State} (h : Invariants ck s) (hc : t.cfg = s.cfg)
    (hb : ∀ k, t.readBuf k = s.readBuf k) (hl : t.len = s.len) (h1 : t.completed = s.completed)
    (h2 : t.hold = s.hold) (h3 : t.txopen = s.txopen) (h4 : t.completed = false → t.ridx = 0) :
    Invariants ck t := by
  have e1 : t.expect = s.expect := by simp [State.expect, hc, hb, hl, h3, State.readBufWord]
  have e2 : t.imageChecksum ck = s.imageChecksum ck := State.imageChecksum_congr ck hl (fun k _ _ _ => hb k)
  have e3 : t.storedChecksum = s.storedChecksum := by simp [State.storedChecksum, State.readBufWord, hb]
  have e4 : t.schemaEntry = s.schemaEntry := by simp [State.schemaEntry, hc, hb]
  have e5 : t.declared = s.declared := by simp [State.declared, hc, hb, State.readBufWord]
  obtain ⟨i1, i2, i3, i4, i5, i6, -⟩ := h
  refine ⟨by rwa [hl, hc], by rwa [h1, h3], by rwa [h1, h2, h3, hl], fun h => ?_, by rwa [h3, hl, hc], ?_, h4⟩
  · obtain ⟨a, b, c, d, e, f, g⟩ := i4 (by rwa [← h1])
    exact ⟨by rwa [hl, e1], by rwa [hc, hl], by rwa [hb], by rwa [hb], by rwa [e2, e3], by rwa [hc, hb],
      by rwa [hc, e4, e5]⟩
  · intro a b c
    obtain ⟨d, e, f, g, i⟩ := i6 (by rwa [← h3]) (by rwa [← h1]) (by rwa [← hl])
    exact ⟨by rwa [hb], by rwa [hl, hb], by rwa [hc, hl, hb, e1], by rwa [hc, hl, e4],
      by rwa [hc, hl, e4, e5, e1]⟩

/-- The invariants of a state that hunts, held or not. -/
theorem Invariants.of_hunting {ck : Checksum} {s : State} (hl : s.len = 0) (hc : s.completed = false)
    (ht : s.txopen = false) (hr : s.ridx = 0) : Invariants ck s := by
  constructor <;> simp_all

/-- The invariants of an output packet. -/
theorem Invariants.of_output {ck : Checksum} {s : State} (hl : s.len.toNat ≤ s.cfg.capacity)
    (hc : s.completed = false) (hh : s.hold = false) (hs : s.cfg.headerSize ≤ s.len.toNat)
    (ht : s.txopen = true) (hr : s.ridx = 0) : Invariants ck s := by
  constructor <;> simp_all

/-- The invariants of a state that receives. -/
theorem Invariants.of_receiving {ck : Checksum} {s : State} (hl : s.len.toNat ≤ s.cfg.capacity)
    (hc : s.completed = false) (hh : s.hold = false) (ht : s.txopen = false) (hr : s.ridx = 0)
    (h : s.len ≠ 0 → ReceivedSoFar s) : Invariants ck s := by
  constructor <;> simp_all

/-- What the invariants say of an output packet. -/
theorem Invariants.output_packet {ck : Checksum} {s : State} (h : Invariants ck s) (ht : s.txopen = true) :
    s.completed = false ∧ s.hold = false ∧ s.cfg.headerSize ≤ s.len.toNat ∧ s.ridx = 0 := by
  have hc : s.completed = false := by
    have := h.notBoth
    simp only [ht, and_true, Bool.not_eq_true] at this
    exact this
  refine ⟨hc, ?_, h.output ht, h.cursor hc⟩
  by_contra hh
  have := (h.held (by simpa using hh)).2.2
  simp [ht] at this

end Sys2Proof.Machine
end

