-- ==== Sys2Proof/Laws/PerInstr.lean ====
section
/-! SUPPORT. The per-instruction family FieldsOfEncode: the fields of an instruction's request word, one
lemma for each instruction (spec/30_encoding.md R80, R83, R84, R96). -/

namespace Sys2Proof.Laws.FieldsOfEncode

/-- The request word of an instruction has its OP, RSV = 0, and its operands in A and B. -/
def Statement (i : Instr) : Prop :=
  RequestFields.ofWord (encode i) = { op := opcode i, rsv := 0, a := fieldA i, b := fieldB i }

theorem nop : Statement (.nop) := ofWord_encode _
theorem reset : Statement (.reset) := ofWord_encode _
theorem feed (b : Byte) : Statement (.feed b) := ofWord_encode _
theorem clrHold : Statement (.clrHold) := ofWord_encode _
theorem wrCtrl (v : BitVec 3) : Statement (.wrCtrl v) := ofWord_encode _
theorem rdReg (r : Word) : Statement (.rdReg r) := ofWord_encode _
theorem ackEv (m : BitVec 2) : Statement (.ackEv m) := ofWord_encode _
theorem clrErrcnt : Statement (.clrErrcnt) := ofWord_encode _
theorem getWord : Statement (.getWord) := ofWord_encode _
theorem peekWord : Statement (.peekWord) := ofWord_encode _
theorem readByte (offset : DWord) : Statement (.readByte offset) := ofWord_encode _
theorem readWord (offset : DWord) : Statement (.readWord offset) := ofWord_encode _
theorem writeByte (offset : DWord) (v : Byte) : Statement (.writeByte offset v) := ofWord_encode _
theorem writeWord (offset : DWord) (w : Word) : Statement (.writeWord offset w) := ofWord_encode _
theorem stageWrite (offset : DWord) (v : Byte) : Statement (.stageWrite offset v) := ofWord_encode _
theorem setChecksum : Statement (.setChecksum) := ofWord_encode _
theorem verifyChecksum : Statement (.verifyChecksum) := ofWord_encode _
theorem finalize : Statement (.finalize) := ofWord_encode _
theorem send : Statement (.send) := ofWord_encode _
theorem resetOutput : Statement (.resetOutput) := ofWord_encode _
theorem setTarget (id : Byte) : Statement (.setTarget id) := ofWord_encode _
theorem addWord (w : Word) : Statement (.addWord w) := ofWord_encode _
theorem checkBuffer (words : DWord) : Statement (.checkBuffer words) := ofWord_encode _
theorem create (t : Byte) : Statement (.create t) := ofWord_encode _
theorem appendByte (v : Byte) : Statement (.appendByte v) := ofWord_encode _
theorem appendWord (w : Word) : Statement (.appendWord w) := ofWord_encode _
theorem verifyBuffer (bytes : DWord) : Statement (.verifyBuffer bytes) := ofWord_encode _

end Sys2Proof.Laws.FieldsOfEncode
end

