-- ==== Sys2Proof/WellFormed.lean ====
section
/-! DEFINITION. Well-formedness of an instruction: the column "kind" of spec/30_encoding.md R83. The
widths of the operands (R84) are the types of Syntax.lean, so no term can break them; the one check
left is that the operation is defined for the instance's KIND (R87). -/

namespace Sys2Proof

/-- The KIND values for which an operation is defined (R83). -/
def Instr.definedFor : Instr → Kind → Bool
  | .resetOutput, k | .setTarget _, k | .addWord _, k | .checkBuffer _, k => k == .cmd
  | .create _, k | .appendByte _, k | .appendWord _, k | .verifyBuffer _, k => k == .tlm
  | .nop, _ | .reset, _ | .feed _, _ | .clrHold, _ | .wrCtrl _, _ | .rdReg _, _ | .ackEv _, _
  | .clrErrcnt, _ | .getWord, _ | .peekWord, _ | .readByte _, _ | .readWord _, _ | .writeByte _ _, _
  | .writeWord _ _, _ | .stageWrite _ _, _ | .setChecksum, _ | .verifyChecksum, _ | .finalize, _
  | .send, _ => true

/-- An instruction is well formed on an instance when its operation is defined for the instance's KIND. -/
abbrev Instr.WellFormed (cfg : Config) (i : Instr) : Prop := i.definedFor cfg.kind = true

end Sys2Proof
end

