-- ==== Sys2Proof/Tests/Slice0.lean ====
section
/-! SUPPORT. The model's own tests, each one step, and for every statement with hypotheses a state and
operands that meet them. The expected words are written from spec/30_encoding.md R80, R83 and R84; the
expected results are those of spec/95_test_vectors.md, whose checksum CK_TEST is `ckTest`; a test names its
vector. -/

namespace Sys2Proof.Tests

open Sys2Proof.Machine

/-! ### Start states (spec/95_test_vectors.md 3.0) -/

/-- The bytes of a buffer from offset 0. -/
def bytes (x : List Byte) : Memory := (List.range x.length).zip x

/-- The §8 packet PKT8, and its header and payload with the checksum field still zero. -/
def pkt8 : List Byte := [0x9A, 0xC3, 0x02, 0x04, 0x00, 0x00, 0x62, 0x02, 0xAA, 0x00, 0x00, 0x55]
def pkt8Open : List Byte := [0x9A, 0xC3, 0x02, 0x04, 0x00, 0x00, 0x00, 0x00, 0xAA, 0x00, 0x00, 0x55]

/-- The telemetry packet TP. -/
def tp : List Byte :=
  [0x9A, 0xC3, 0x10, 0x05, 0x04, 0x00, 0x11, 0x04, 0x40, 0xE2, 0x01, 0x00, 0x64, 0x00, 0x00, 0x00,
   0x34, 0x12, 0x78, 0x56]

/-- S0 and T0: power-on reset of TC-CMD and TC-TLM. -/
def s0 : State := State.powerOn (Config.testVectors .cmd) 0
def t0 : State := State.powerOn (Config.testVectors .tlm) 0

/-- The first `n` bytes of a packet received so far. -/
def receiving (s : State) (x : List Byte) : State := { s with buf := bytes x, len := BitVec.ofNat 17 x.length }

/-- A packet received whole. -/
def received (s : State) (x : List Byte) : State :=
  { receiving s x with completed := true, lastfeed := .ok, ev := 1 }

/-- An output packet. -/
def output (s : State) (x : List Byte) : State := { receiving s x with txopen := true, altered := true }

/-- Bytes staged. -/
def staged (s : State) (x : List Byte) : State := { s with stage := bytes x }

def s1 : State := receiving s0 [0x9A]
def s3 : State := receiving s0 (pkt8.take 3)
def s11 : State := receiving s0 (pkt8.take 11)
def sd : State := received s0 pkt8
def sh : State := { s0 with ctrl := 0, hold := true, errcnt := 1, ev := 2, lastfeed := .noSync }
def st : State := { output s0 [0x9A, 0xC3, 0, 0, 0, 0, 0, 0] with seq := 1 }
def st4 : State := { output s0 pkt8Open with seq := 1 }
def t5a : State := receiving t0 (tp.take 5)
def t19 : State := receiving t0 (tp.take 19)
def td : State := { received t0 tp with tag := 0x1000 }
def tc : State := output t0 ([0x9A, 0xC3, 0x10, 0x05] ++ List.replicate 12 0)
def tc3 : State := output t0 ([0x9A, 0xC3, 0x10, 0x05, 3, 0] ++ List.replicate 10 0 ++ [0x11, 0x22, 0x33])

/-- The response an outcome ends with. -/
def answer (o : Host.Outcome State Fault Refusal) : Option Response :=
  match o with
  | .next t => t.responses.getLast?
  | .fault _ => none
  | .refused _ => none

/-- A part of the next state. -/
def part {α : Type} (f : State → α) (o : Host.Outcome State Fault Refusal) : Option α :=
  match o with
  | .next t => some (f t)
  | .fault _ => none
  | .refused _ => none

/-- The state in which the host presents one word. -/
def asks (s : State) (w : PortWord) : State := { s with pending := [.request w] }

/-! ### Decoding: one word for each instruction -/

theorem test_decode_nop : decode 0x0000000000000000 = .ok .nop := by decide
theorem test_decode_reset : decode 0x0000000000000001 = .ok .reset := by decide
theorem test_decode_feed : decode 0x00000000009A0002 = .ok (.feed 0x9A) := by decide
theorem test_decode_clrHold : decode 0x0000000000000003 = .ok .clrHold := by decide
theorem test_decode_wrCtrl : decode 0x0000000000070004 = .ok (.wrCtrl 7) := by decide
theorem test_decode_rdReg : decode 0x00000000000C0005 = .ok (.rdReg 12) := by decide
theorem test_decode_ackEv : decode 0x0000000000020006 = .ok (.ackEv 2) := by decide
theorem test_decode_clrErrcnt : decode 0x0000000000000007 = .ok .clrErrcnt := by decide
theorem test_decode_getWord : decode 0x0000000000000008 = .ok .getWord := by decide
theorem test_decode_peekWord : decode 0x0000000000000009 = .ok .peekWord := by decide
theorem test_decode_readByte : decode 0xFFFFFFFF0000000A = .ok (.readByte 0xFFFFFFFF) := by decide
theorem test_decode_readWord : decode 0x000000070000000B = .ok (.readWord 7) := by decide
theorem test_decode_writeByte : decode 0x0000000800AB000C = .ok (.writeByte 8 0xAB) := by decide
theorem test_decode_writeWord : decode 0x000000081234000D = .ok (.writeWord 8 0x1234) := by decide
theorem test_decode_stageWrite : decode 0x00000001009A000E = .ok (.stageWrite 1 0x9A) := by decide
theorem test_decode_setChecksum : decode 0x000000000000000F = .ok .setChecksum := by decide
theorem test_decode_verifyChecksum : decode 0x0000000000000010 = .ok .verifyChecksum := by decide
theorem test_decode_finalize : decode 0x0000000000000011 = .ok .finalize := by decide
theorem test_decode_send : decode 0x0000000000000012 = .ok .send := by decide
theorem test_decode_resetOutput : decode 0x0000000000000020 = .ok .resetOutput := by decide
theorem test_decode_setTarget : decode 0x0000000000020021 = .ok (.setTarget 2) := by decide
theorem test_decode_addWord : decode 0x0000000055000022 = .ok (.addWord 0x5500) := by decide
theorem test_decode_checkBuffer : decode 0x0000000600000023 = .ok (.checkBuffer 6) := by decide
theorem test_decode_create : decode 0x0000000000100030 = .ok (.create 0x10) := by decide
theorem test_decode_appendByte : decode 0x0000000000110031 = .ok (.appendByte 0x11) := by decide
theorem test_decode_appendWord : decode 0x0000000056780032 = .ok (.appendWord 0x5678) := by decide
theorem test_decode_verifyBuffer : decode 0x0000001400000033 = .ok (.verifyBuffer 20) := by decide

/-- V30-2, V30-10: an undefined OP. -/
theorem test_decode_undefined :
    decode 0x13 = .error (.undefinedOpcode 0x13) ∧ decode 0xFF = .error (.undefinedOpcode 0xFF) := by decide
/-- V30-3: a bit of RSV. -/
theorem test_decode_reserved_rsv : decode 0xFF00 = .error (.reservedRsv 0xFF) := by decide
/-- V30-4, V30-8, V30-9, V30-11: reserved bits of A. -/
theorem test_decode_reserved_a :
    decode 0x019A0002 = .error (.reservedA 0x019A) ∧ decode 0x00080004 = .error (.reservedA 8) ∧
    decode 0x00040006 = .error (.reservedA 4) ∧ decode 0x00010008 = .error (.reservedA 1) := by decide
/-- V30-5: a bit of B where B is no operand. -/
theorem test_decode_reserved_b : decode 0x00000001009A0002 = .error (.reservedB 1) := by decide
/-- Bits at or above nbits are 0, and a number of more than 64 bits is no request. -/
theorem test_decodeTableWord :
    decodeTableWord 8 0x123400 = some .nop ∧ decodeTableWord 32 0x55000022 = some (.addWord 0x5500) ∧
    decodeTableWord 72 0x010000000000000000 = none := by decide

/-! ### Well-formedness: the KIND test refuses the operations of the other kind (R83, R87) -/

theorem test_wf_command_ops_refused_on_tlm :
    ¬ Instr.WellFormed t0.cfg .resetOutput ∧ ¬ Instr.WellFormed t0.cfg (.setTarget 0) ∧
    ¬ Instr.WellFormed t0.cfg (.addWord 0) ∧ ¬ Instr.WellFormed t0.cfg (.checkBuffer 0) := by decide
theorem test_wf_telemetry_ops_refused_on_cmd :
    ¬ Instr.WellFormed s0.cfg (.create 0) ∧ ¬ Instr.WellFormed s0.cfg (.appendByte 0) ∧
    ¬ Instr.WellFormed s0.cfg (.appendWord 0) ∧ ¬ Instr.WellFormed s0.cfg (.verifyBuffer 0) := by decide
theorem test_wf_own_ops :
    Instr.WellFormed s0.cfg .resetOutput ∧ Instr.WellFormed t0.cfg (.create 0) ∧
    Instr.WellFormed s0.cfg .nop ∧ Instr.WellFormed t0.cfg .send := by decide

/-! ### The response word (R81; the response words of V42-1, V40-4, V41-18) -/

theorem test_response_word :
    (Response.word ⟨.incomplete, true, 0⟩).toNat = 0x11 ∧ (Response.word ⟨.ok, false, 0x262⟩).toNat = 0x26200000000 ∧
    (Response.word ⟨.endOfPacket, false, 0⟩).toNat = 7 := by decide

/-! ### Single steps -/

/-- V30-1. -/
theorem test_nop : answer (step (asks s0 0)) = some ⟨.ok, false, 0⟩ := by decide
/-- V30-3: the step answers BAD_COMMAND. -/
theorem test_bad_command : answer (step (asks s0 0xFF00)) = some ⟨.badCommand, false, 0⟩ := by decide
/-- R241: on SD. -/
theorem test_reset : part (fun t => (t.len, t.completed, t.lastfeed, t.ev)) (exec .reset sd) =
    some (0, false, .incomplete, 1) := by decide
/-- V42-1; V42-5; V42-7 and V42-9 (P = 32 = M_c is refused, P = 31 taken); E5 (type 0x10 takes L = 4 only). -/
theorem test_feed :
    part (fun t => (t.len, t.buf)) (exec (.feed 0x9A) s0) = some (1, [(0, 0x9A)]) ∧
    part (fun t => (t.len, t.lastfeed, t.errcnt, t.ev, t.hold)) (exec (.feed 0x55) s1) = some (0, .noSync, 1, 2, false) ∧
    answer (exec (.feed 0x20) s3) = some ⟨.lengthError, false, 0⟩ ∧
    answer (exec (.feed 0x1F) s3) = some ⟨.incomplete, true, 0⟩ ∧
    answer (exec (.feed 0x00) t5a) = some ⟨.incomplete, true, 0⟩ ∧
    answer (exec (.feed 0x01) t5a) = some ⟨.lengthError, false, 0⟩ := by decide
/-- V42-11 and V42-12: the last byte of PKT8, and a wrong one; TD: the last byte of TP loads TAG. -/
theorem test_feed_completes :
    ((feed ckTest 0x55 s11).1.completed, (feed ckTest 0x55 s11).1.ev, (feed ckTest 0x55 s11).2) =
      (true, 1, ⟨.ok, true, 0⟩) ∧
    ((feed ckTest 0x56 s11).1.len, (feed ckTest 0x56 s11).2) = (0, ⟨.crcError, true, 0⟩) ∧
    ((feed ckTest 0x56 t19).1.completed, (feed ckTest 0x56 t19).1.tag) = (true, 0x1000) := by decide
/-- R242: on SH. -/
theorem test_clrHold : part (fun t => (t.hold, t.errcnt, t.ev)) (exec .clrHold sh) = some (false, 1, 2) := by decide
/-- R243: HOLD already set stays. -/
theorem test_wrCtrl : part (fun t => (t.ctrl, t.hold)) (exec (.wrCtrl 1) sh) = some (1, true) := by decide
/-- R43, R44: STATUS of SD (LASTFEED OK, COMPLETED) and CAP of TC-TLM. -/
theorem test_rdReg :
    answer (exec (.rdReg 0) sd) = some ⟨.ok, false, 0x10⟩ ∧
    answer (exec (.rdReg 11) t0) = some ⟨.ok, false, 24⟩ := by decide
/-- V30-12. -/
theorem test_rdReg_number : answer (exec (.rdReg 13) s0) = some ⟨.badCommand, false, 0⟩ := by decide
theorem test_ackEv : part State.ev (exec (.ackEv 1) { sd with ev := 3 }) = some 2 := by decide
theorem test_clrErrcnt : part (fun t => (t.errcnt, t.ev)) (exec .clrErrcnt sh) = some (0, 2) := by decide
/-- V41-16, V41-17, V41-18. -/
theorem test_getWord :
    answer (exec .getWord sd) = some ⟨.ok, false, 0xAA⟩ ∧
    answer (exec .getWord { sd with ridx := 1 }) = some ⟨.ok, false, 0x5500⟩ ∧
    answer (exec .getWord { sd with ridx := 2 }) = some ⟨.endOfPacket, false, 0⟩ := by decide
theorem test_getWord_cursor : part State.ridx (exec .getWord sd) = some 1 := by decide
/-- V41-19. -/
theorem test_peekWord : part (fun t => (t.ridx, t.responses)) (exec .peekWord sd) =
    some (0, [⟨.ok, false, 0xAA⟩]) := by decide
/-- V41-1 and V41-8. -/
theorem test_readByte :
    answer (exec (.readByte 2) sd) = some ⟨.ok, false, 2⟩ ∧
    answer (exec (.readByte 0xFFFFFFFF) sd) = some ⟨.outOfRange, false, 0⟩ := by decide
/-- V41-3 and V41-7. -/
theorem test_readWord :
    answer (exec (.readWord 7) sd) = some ⟨.ok, false, 0xAA02⟩ ∧
    answer (exec (.readWord 39) sd) = some ⟨.outOfRange, false, 0⟩ := by decide
/-- E4. -/
theorem test_writeByte : part (fun t => (t.readBuf 8, t.readBuf 9, t.len)) (exec (.writeByte 8 0xAB) st4) =
    some (0xAB, 0x00, 12) := by decide
/-- V41-9. -/
theorem test_writeByte_received : answer (exec (.writeByte 8 0) sd) = some ⟨.noPacket, false, 0⟩ := by decide
/-- V41-11 and V41-10. -/
theorem test_writeWord :
    part (fun t => (t.readBuf 38, t.readBuf 39, t.len)) (exec (.writeWord 38 0x1234) st) = some (0x34, 0x12, 8) ∧
    answer (exec (.writeWord 39 0x1234) st) = some ⟨.outOfRange, false, 0⟩ := by decide
/-- V41-13 and V41-14. -/
theorem test_stageWrite :
    part State.stage (exec (.stageWrite 0 0x9A) s0) = some [(0, 0x9A)] ∧
    answer (exec (.stageWrite 40 0x9A) s0) = some ⟨.outOfRange, false, 0⟩ := by decide
/-- V40-4 and V40-1. -/
theorem test_setChecksum :
    ((setChecksum ckTest st4).2, (setChecksum ckTest st4).1.buf, (setChecksum ckTest st4).1.altered) =
      (⟨.ok, false, 0x262⟩, bytes pkt8, false) ∧
    (setChecksum ckTest s0).2 = ⟨.noPacket, false, 0⟩ := by decide
/-- V40-3 and V40-7. -/
theorem test_verifyChecksum :
    (verifyChecksum ckTest st4).2 = ⟨.crcError, false, 0x262⟩ ∧
    (verifyChecksum ckTest sd).2 = ⟨.ok, false, 0x262⟩ := by decide
/-- E1: FINALIZE; and ST4L: a length field that was overwritten is rewritten (R173). -/
theorem test_finalize :
    ((finalize ckTest st4).2, (finalize ckTest st4).1.buf) = (⟨.ok, false, 0x262⟩, bytes pkt8) ∧
    (finalize ckTest (st4.setBuf 3 0x10)).1.buf = bytes pkt8 := by decide
/-- R212: a fixed type with the wrong payload length is refused and nothing is written. -/
theorem test_finalize_telemetry : finalize ckTest tc3 = (tc3, ⟨.lengthError, false, 0⟩) := by decide
/-- E1: SEND. -/
theorem test_send : ((send ckTest st4).2, (send ckTest st4).1.txout) = (⟨.ok, false, 12⟩, pkt8) := by decide
/-- ST, and the wrap of SEQ (TC-CMDQ). -/
theorem test_resetOutput :
    part (fun t => (t.buf, t.len, t.seq)) (exec .resetOutput s0) = some (bytes [0x9A, 0xC3, 0, 0, 0, 0, 0, 0], 8, 1) ∧
    part (fun t => (t.readBuf 4, t.readBuf 5, t.seq)) (exec .resetOutput { s0 with seq := 0xFFFF }) =
      some (0xFF, 0xFF, 0) := by decide
theorem test_setTarget : part (fun t => (t.readBuf 1, t.readBuf 2, t.readBuf 3)) (exec (.setTarget 0x02) st) =
    some (0xC3, 0x02, 0x00) := by decide
theorem test_addWord : part (fun t => (t.len, t.readBuf 3, t.readBuf 8, t.readBuf 9)) (exec (.addWord 0x1234) st) =
    some (10, 2, 0x34, 0x12) := by decide
/-- E3: at P = 30 of M_c = 32 the next word is refused. -/
theorem test_addWord_full : answer (exec (.addWord 0x1010) { st with len := 38 }) = some ⟨.bufferFull, false, 0⟩ := by
  decide
/-- V42-19, V42-20 and V42-22. -/
theorem test_checkBuffer :
    ((checkBuffer ckTest 6 (staged s0 pkt8)).1.buf, (checkBuffer ckTest 6 (staged s0 pkt8)).1.len) = (bytes pkt8, 12) ∧
    (checkBuffer ckTest 5 (staged s0 pkt8)).2 = ⟨.lengthError, false, 0⟩ ∧
    (checkBuffer ckTest 3 (staged s0 pkt8)).2 = ⟨.lengthError, false, 0⟩ := by decide
/-- TC; and an unregistered type. -/
theorem test_create :
    part State.buf (exec (.create 0x10) t0) = some tc.buf ∧
    answer (exec (.create 0xEE) t0) = some ⟨.unknownType, false, 0⟩ := by decide
/-- TC3 to TC4, where the type is full. -/
theorem test_appendByte :
    part (fun t => (t.len, t.readBuf 4, t.readBuf 19)) (exec (.appendByte 0x44) tc3) = some (20, 4, 0x44) ∧
    answer (exec (.appendByte 0x55) { tc3 with len := 20 }) = some ⟨.bufferFull, false, 0⟩ := by decide
/-- E8's first word; and at L = 3 of 4 a word does not fit. -/
theorem test_appendWord :
    part (fun t => (t.len, t.readBuf 4, t.readBuf 16, t.readBuf 17)) (exec (.appendWord 0x1234) tc) =
      some (18, 2, 0x34, 0x12) ∧
    answer (exec (.appendWord 0x1234) tc3) = some ⟨.bufferFull, false, 0⟩ := by decide
/-- TS; TSl (length field 05); TSc (a payload bit inverted). -/
theorem test_verifyBuffer :
    (verifyBuffer ckTest 20 (staged t0 tp)).2 = ⟨.ok, false, 0⟩ ∧
    (verifyBuffer ckTest 20 (staged t0 (tp.set 4 5))).2 = ⟨.lengthError, false, 0⟩ ∧
    (verifyBuffer ckTest 20 (staged t0 (tp.set 16 0x35))).2 = ⟨.crcError, false, 0⟩ := by decide
/-- A word placed by `withFetchWord` is the request the next step runs. -/
theorem test_withFetchWord : part State.buf (step (s0.withFetchWord 64 0x00000000009A0002)) = some [(0, 0x9A)] := by decide
theorem test_reset_memory_canonical : State.reset.buf.wf State.reset.cfg.capacity = true := by decide

/-! ### Witnesses: the hypotheses of each statement, met

The name is the statement's. Where a hypothesis speaks of the instance's CK, whose values nothing knows, the
packet's checksum bytes are set to its value (`sealed`); where it speaks of every CK, CK_TEST is taken. -/

/-- A packet image with its stored checksum set. -/
def sealed (x : List Byte) : List Byte := (x.set 6 (lo16 (ckz Config.ck x))).set 7 (hi16 (ckz Config.ck x))

theorem ckz_sealed (x : List Byte) : ckz Config.ck (sealed x) = ckz Config.ck x := by
  unfold ckz sealed
  congr 1
  apply List.ext_getElem
  · simp
  · intro i h1 h2
    simp only [List.getElem_set]
    split
    · rfl
    · split <;> rfl

/-- SD, TD, S11, T19 and the staged packets, with CK's own checksum. -/
def sdk : State := received s0 (sealed pkt8)
def tdk : State := received t0 (sealed tp)
def s11k : State := receiving s0 ((sealed pkt8).take 11)
def t19k : State := receiving t0 ((sealed tp).take 19)
def ssk : State := staged s0 (sealed pkt8)
def tsk : State := staged t0 (sealed tp)

/-- As `ssk` and `tsk`, with a stored checksum that CK does not give. -/
def wrong (x : List Byte) : List Byte :=
  (x.set 6 (lo16 (ckz Config.ck x + 1))).set 7 (hi16 (ckz Config.ck x + 1))
def ssw : State := staged s0 (wrong pkt8)
def tsw : State := staged t0 (wrong tp)

theorem ckz_wrong (x : List Byte) : ckz Config.ck (wrong x) = ckz Config.ck x := by
  unfold ckz wrong
  congr 1
  apply List.ext_getElem
  · simp
  · intro i h1 h2
    simp only [List.getElem_set]
    split
    · rfl
    · split <;> rfl

theorem add_one_ne (w : Word) : w ≠ w + 1 := by
  intro h
  have := congrArg BitVec.toNat h
  simp at this
  omega

theorem sdk_checksum : sdk.imageChecksum Config.ck = sdk.storedChecksum :=
  (ckz_sealed pkt8).trans (le16_lo16_hi16 _).symm

theorem tdk_checksum : tdk.imageChecksum Config.ck = tdk.storedChecksum :=
  (ckz_sealed tp).trans (le16_lo16_hi16 _).symm

theorem sdk_invariants : Invariants Config.ck sdk where
  lenBound := by decide
  notBoth := by decide
  held := by decide
  done _ := ⟨by decide, by decide, by decide, by decide, sdk_checksum, by decide, by decide⟩
  output := by decide
  receiving _ h := absurd h (by decide)
  cursor := by decide

theorem tdk_invariants : Invariants Config.ck tdk where
  lenBound := by decide
  notBoth := by decide
  held := by decide
  done _ := ⟨by decide, by decide, by decide, by decide, tdk_checksum, by decide, fun _ => ⟨⟨4, false, 0x1000⟩, by decide, by decide⟩⟩
  output := by decide
  receiving _ h := absurd h (by decide)
  cursor := by decide

theorem t19k_invariants : Invariants Config.ck t19k where
  lenBound := by decide
  notBoth := by decide
  held := by decide
  done h := absurd h (by decide)
  output := by decide
  receiving _ _ _ := ⟨by decide, by decide, by decide, by decide,
    fun _ _ => ⟨⟨⟨4, false, 0x1000⟩, by decide, by decide⟩, by decide⟩⟩
  cursor := by decide

/-! #### Encoding and the step -/

theorem witness_EncodeOfDecodeIsIdentity : decode 0x0000000855000023 = .error (.reservedA 0x5500) ∧
    decode 0xFFFFFFFF00FF000C = .ok (.writeByte 0xFFFFFFFF 0xFF) := by decide

theorem witness_DecodeAcceptsExactlyTheOpcodeRows :
    (0x02, 0xFFFFFFFFFF00FFFF) ∈ opcodeRows ∧
    (0x00000000009A0002 : PortWord) &&& 0xFFFFFFFFFF00FFFF = 0x02 := by
  exact ⟨by simp [opcodeRows], by decide⟩

/-- Each range of undefined OPs at its two ends, and a defined OP with a reserved bit of RSV, of A and of B. -/
theorem witness_UndecodableRequestAnswersBadCommand :
    s0.cfg.valid = true ∧ (asks s0 0x13).pending = [.request 0x13] ∧
    (∀ op ∈ [0x13, 0x1F], 0x13 ≤ (BitVec.ofNat 64 op).toNat % 256 ∧ (BitVec.ofNat 64 op).toNat % 256 ≤ 0x1F) ∧
    (∀ op ∈ [0x24, 0x2F], 0x24 ≤ (BitVec.ofNat 64 op).toNat % 256 ∧ (BitVec.ofNat 64 op).toNat % 256 ≤ 0x2F) ∧
    (∀ op ∈ [0x34, 0xFF], 0x34 ≤ (BitVec.ofNat 64 op).toNat % 256 ∧ (BitVec.ofNat 64 op).toNat % 256 ≤ 0xFF) ∧
    (∀ w ∈ ([0x0102, 0x01000002, 0x0000000100000002] : List PortWord), ∃ row ∈ opcodeRows,
      w &&& 0xFF = row.1 ∧ w &&& row.2 ≠ row.1) := by
  refine ⟨by decide, rfl, by decide, by decide, by decide, ?_⟩
  intro w hw
  refine ⟨(0x02, 0xFFFFFFFFFF00FFFF), by simp [opcodeRows], ?_⟩
  simp only [List.mem_cons, List.not_mem_nil, or_false] at hw
  rcases hw with rfl | rfl | rfl <;> decide

theorem witness_OtherKindRequestAnswersBadCommand :
    (t0.cfg.kind = .tlm ∧ (opcode .resetOutput).toNat = 0x20 ∧ (opcode (.checkBuffer 4)).toNat = 0x23) ∧
    (s0.cfg.kind = .cmd ∧ (opcode (.create 0x10)).toNat = 0x30 ∧ (opcode (.verifyBuffer 20)).toNat = 0x33) := by
  decide

theorem witness_StepRunsDecodedRequest :
    sd.cfg.valid = true ∧ (asks sd 8).pending = [.request 8] ∧ decode 8 = .ok .getWord := by decide

theorem witness_StepWithoutRequest :
    (sd.cfg.valid = true ∧ sd.pending = []) ∧
    ({ sd with pending := [.rst, .rst] }.pending = .rst :: [.rst]) ∧
    { Config.testVectors .cmd with cmdMaxPayload := 0 }.valid = false ∧
    { Config.testVectors .tlm with tlmMaxPayload := 7 }.valid = false := by decide

/-- The bounds of R6 themselves are valid. -/
theorem witness_PowerOnSatisfiesTheInvariants :
    (Config.testVectors .cmd).valid = true ∧ (Config.testVectors .tlm).valid = true ∧
    { Config.testVectors .cmd with cmdMaxPayload := 1 }.valid = true ∧
    { Config.testVectors .cmd with cmdMaxPayload := 256, tlmMaxPayload := 65535 }.valid = true := by decide

theorem witness_EveryRequestGetsOneResponse :
    t0.cfg.valid = true ∧ (asks t0 0x20).pending = [.request 0x20] := by decide

theorem witness_ResponseWordAndAcc : ∃ t r, exec (.feed 0x00) s0 = .next t ∧ t.responses = s0.responses ++ [r] ∧
    r.acc = true := ⟨_, ⟨.incomplete, true, 0⟩, rfl, rfl, rfl⟩

/-- A completed packet, whose cursor moves. -/
theorem witness_StepKeepsTheInvariants :
    Invariants Config.ck (asks sdk 8) ∧ ∃ t, step (asks sdk 8) = .next t ∧ t.ridx = 1 :=
  ⟨sdk_invariants.congr rfl (fun _ => rfl) rfl rfl rfl rfl (by decide), _, rfl, rfl⟩

/-- A framing error; and ADD_WORD at the last payload below M_c = 32 that still takes a word. -/
theorem witness_StepKeepsTheRegisterRules :
    (RegisterRules (asks s1 0x0000000000550002) ∧ ∃ t, step (asks s1 0x0000000000550002) = .next t ∧
      t.lastfeed = .noSync) ∧
    (RegisterRules (asks { st with len := 36 } 0x0000000012340022) ∧
      ∃ t, step (asks { st with len := 36 } 0x0000000012340022) = .next t ∧ t.payloadLen = 30) :=
  ⟨⟨⟨by decide, by decide, by decide, by decide, by decide⟩, _, rfl, rfl⟩,
    ⟨by decide, by decide, by decide, by decide, by decide⟩, _, rfl, by decide⟩

/-- The cursor one word before the end, and at the end. -/
theorem witness_CursorStaysInsideThePayload :
    (∃ t, step (asks { sdk with ridx := 1 } 8) = .next t ∧ t.ridx.toNat = t.declared / 2) ∧
    Invariants Config.ck (asks { sdk with ridx := 1 } 8) ∧ ({ sdk with ridx := 1 }).ridx.toNat ≤ sdk.declared / 2 ∧
    Invariants Config.ck (asks { sdk with ridx := 2 } 8) ∧ ({ sdk with ridx := 2 }).ridx.toNat = sdk.declared / 2 :=
  ⟨⟨_, rfl, by decide⟩, sdk_invariants.congr rfl (fun _ => rfl) rfl rfl rfl rfl (by decide), by decide,
    sdk_invariants.congr rfl (fun _ => rfl) rfl rfl rfl rfl (by decide), by decide⟩

/-- A state of each phase; LEN at both ends of HEADER and PAYLOAD. -/
theorem witness_PhaseIsTotal :
    st.txopen = true ∧ (sd.txopen = false ∧ sd.completed = true) ∧
    (sh.txopen = false ∧ sh.completed = false ∧ sh.hold = true) ∧
    (s11.txopen = false ∧ s11.completed = false ∧ s11.hold = false) ∧
    s0.len.toNat = 0 ∧ s1.len.toNat = 1 ∧
    (receiving s0 (pkt8.take 2)).len.toNat = 2 ∧ (receiving s0 (pkt8.take 7)).len.toNat < s0.cfg.headerSize ∧
    (receiving s0 (pkt8.take 8)).len.toNat = s0.cfg.headerSize ∧ s11.len.toNat < s11.expect ∧
    Invariants Config.ck t19k :=
  ⟨by decide, by decide, by decide, by decide, by decide, by decide, by decide, by decide, by decide, by decide,
    t19k_invariants⟩

/-! #### Block control and derived registers -/

theorem witness_ClrHoldReleasesTheHold : Invariants Config.ck sh ∧ sh.hold = true :=
  ⟨.of_hunting rfl rfl rfl rfl, rfl⟩

theorem witness_AckEvClearsEventBits : (0 < 2 ∧ 1 < 2) ∧ ∃ m : BitVec 2, m = 3 := ⟨by decide, 3, rfl⟩

theorem witness_ExpectAndRemainAreDerived :
    st.txopen = true ∧ (s3.txopen = false ∧ s3.cfg.kind = .cmd ∧ s3.expect = 0) ∧
    (receiving s0 (pkt8.take 4)).expect = 12 ∧ (t5a.txopen = false ∧ t5a.cfg.kind = .tlm ∧ t5a.expect = 0) ∧
    (receiving t0 (tp.take 6)).expect = 20 ∧
    (Invariants Config.ck t19k ∧ t19k.expect ≠ 0) ∧ (Invariants Config.ck sdk ∧ sdk.completed = true) :=
  ⟨by decide, by decide, by decide, by decide, by decide, ⟨t19k_invariants, by decide⟩, sdk_invariants, by decide⟩

theorem witness_RdRegReadsTheRegisterMap :
    sd.cfg.valid = true ∧ t0.cfg.valid = true ∧ 12 < (13 : Word).toNat ∧ 12 < (0xFFFF : Word).toNat ∧
    (0 : Word).toNat ≤ 12 ∧ (12 : Word).toNat ≤ 12 := by decide

/-- ACK_EV lowers the interrupt. -/
theorem witness_IrqIsALevelOfEventsAndEnables :
    ∃ t, step (asks { sd with ctrl := 3 } 0x0000000000010006) = .next t ∧
      t.irq ≠ (asks { sd with ctrl := 3 } 0x0000000000010006).irq := ⟨_, rfl, by decide⟩

/-! #### Buffer accesses and the read cursor -/

theorem witness_ReadByteReturnsTheByte :
    (39 : DWord).toNat < sd.cfg.capacity ∧ sd.cfg.capacity ≤ (40 : DWord).toNat := by decide

theorem witness_ReadWordReturnsTwoBytes :
    (38 : DWord).toNat + 2 ≤ sd.cfg.capacity ∧ sd.cfg.capacity < (39 : DWord).toNat + 2 ∧
    sd.cfg.capacity < (0xFFFFFFFF : DWord).toNat + 2 := by decide

theorem witness_WriteByteWritesOneByte :
    sd.txopen = false ∧ st.txopen = true ∧ st.cfg.capacity < (40 : DWord).toNat + 1 ∧
    (39 : DWord).toNat + 1 ≤ st.cfg.capacity := by decide

theorem witness_WriteWordWritesTwoBytes :
    sd.txopen = false ∧ st.txopen = true ∧ st.cfg.capacity < (39 : DWord).toNat + 2 ∧
    (38 : DWord).toNat + 2 ≤ st.cfg.capacity := by decide

theorem witness_StageWriteWritesOneByte :
    s0.cfg.capacity < (40 : DWord).toNat + 1 ∧ (39 : DWord).toNat + 1 ≤ s0.cfg.capacity := by decide

/-- The cursor past the last word; on an odd payload (ODD, P = 3); on the last word. -/
theorem witness_GetWordReadsAndAdvances :
    s11.completed = false ∧ sd.completed = true ∧
    ({ sd with ridx := 2 }).declared < 2 * ({ sd with ridx := 2 }).ridx.toNat + 2 ∧
    ({ sd.setBuf 3 3 with ridx := 1 }).declared < 2 * ({ sd with ridx := 1 }).ridx.toNat + 2 ∧
    2 * ({ sd with ridx := 1 }).ridx.toNat + 2 = ({ sd with ridx := 1 }).declared ∧
    td.completed = true ∧ 2 * td.ridx.toNat + 2 ≤ td.declared := by decide

theorem witness_PeekWordChangesNothing : sd.completed = true ∧ 2 * sd.ridx.toNat + 2 ≤ sd.declared := by decide

/-! #### The checksum engine -/

theorem witness_SetChecksumStoresTheChecksum :
    (s11.txopen = false ∧ s11.completed = false) ∧ st4.txopen = true ∧
    (Invariants Config.ck sdk ∧ sdk.completed = true) := ⟨by decide, by decide, sdk_invariants, by decide⟩

theorem witness_VerifyChecksumComparesTheChecksum :
    (s11.txopen = false ∧ s11.completed = false) ∧ st4.txopen = true ∧
    (Invariants Config.ck tdk ∧ tdk.completed = true) := ⟨by decide, by decide, tdk_invariants, by decide⟩

/-- The sum of the bytes of a sequence. -/
theorem ckTest_eq (x : List Byte) : ckTest x = BitVec.ofNat 16 (x.map BitVec.toNat).sum := by
  have h : ∀ (x : List Byte) (c : Word),
      x.foldl (fun c b => c + b.setWidth 16) c = c + BitVec.ofNat 16 (x.map BitVec.toNat).sum := by
    intro x
    induction x with
    | nil => intro c; simp
    | cons b x ih =>
      intro c
      rw [List.foldl_cons, ih, List.map_cons, List.sum_cons, BitVec.add_assoc]
      congr 1
      apply BitVec.eq_of_toNat_eq
      simp
  rw [ckTest, h]
  simp

/-- CK_TEST has R122 (the argument of spec/95_test_vectors.md section 1): one byte changes the sum by less
than 256, and not by 0. -/
theorem ckTest_detects (h : Nat) (hh : 8 ≤ h) : DetectsPayloadFlip ckTest h := by
  intro x i k hi hx hk hs heq
  rw [← hs] at heq
  have flip : x.getD i 0 ^^^ BitVec.twoPow 8 k ≠ x.getD i 0 := by
    intro e
    have := congrArg (fun b => b.getLsbD k) e
    simp [hk] at this
  generalize x.getD i 0 ^^^ BitVec.twoPow 8 k = v at heq flip
  have hxi : x.getD i 0 = x[i] := by simp [hx]
  rw [hxi] at flip
  have split : ∀ w : Byte, (((x.set i w).set 6 0).set 7 0).map BitVec.toNat =
      ((((x.set 6 0).set 7 0).map BitVec.toNat).set i w.toNat) := by
    intro w
    rw [← List.map_set]
    congr 1
    rw [List.set_comm _ _ (by omega : i ≠ 6), List.set_comm _ _ (by omega : i ≠ 7)]
  have same : x = x.set i x[i] := by simp
  unfold ckz at heq
  conv at heq => rhs; rw [same]
  rw [ckTest_eq, ckTest_eq, split, split] at heq
  have len : i < (((x.set 6 0).set 7 0).map BitVec.toNat).length := by simpa using hx
  rw [List.sum_set, List.sum_set, if_pos len, if_pos len] at heq
  generalize ((((x.set 6 0).set 7 0).map BitVec.toNat).take i).sum = a at heq
  generalize ((((x.set 6 0).set 7 0).map BitVec.toNat).drop (i + 1)).sum = c at heq
  apply flip
  apply BitVec.eq_of_toNat_eq
  have := congrArg BitVec.toNat heq
  simp only [BitVec.toNat_ofNat] at this
  have h1 := v.isLt
  have h2 := x[i].isLt
  omega

/-- Each of the three operations, and the first and last payload byte with the lowest and highest bit. -/
theorem witness_ChecksumInvariantHolds :
    (∃ t d, setChecksum ckTest st4 = (t, ⟨.ok, false, d⟩) ∧ t.txopen = true ∧ t.len.toNat = 12 ∧
      t.cfg.capacity = 40 ∧ t.cfg.valid = true) ∧
    (∃ t d, finalize ckTest st4 = (t, ⟨.ok, false, d⟩)) ∧ (∃ t d, send ckTest st4 = (t, ⟨.ok, false, d⟩)) ∧
    DetectsPayloadFlip ckTest st4.cfg.headerSize ∧
    (st4.cfg.headerSize ≤ 8 ∧ 8 < 12 ∧ st4.cfg.headerSize ≤ 11 ∧ 11 < 12 ∧ 0 < 8 ∧ 7 < 8) :=
  ⟨⟨_, _, rfl, by decide⟩, ⟨_, _, rfl⟩, ⟨_, _, rfl⟩, ckTest_detects _ (by decide), by decide⟩

/-! #### Output packets -/

theorem witness_ResetOutputStartsAPacket : s0.cfg.kind = .cmd ∧ sd.cfg.kind = .cmd := by decide

theorem witness_SetTargetWritesByteTwo :
    s0.cfg.kind = .cmd ∧ s0.txopen = false ∧ st.cfg.kind = .cmd ∧ st.txopen = true := by decide

/-- P = 0; P = 28, the last that takes a word at M_c = 32; P = 30, which refuses it. -/
theorem witness_AddWordAppendsBelowTheBound :
    s0.cfg.kind = .cmd ∧ s0.cfg.valid = true ∧ s0.txopen = false ∧ st.txopen = true ∧ 8 ≤ st.len.toNat ∧
    st.len.toNat - 8 + 2 < st.cfg.cmdMaxPayload ∧
    ({ st with len := 36 }).len.toNat - 8 + 2 < st.cfg.cmdMaxPayload ∧
    st.cfg.cmdMaxPayload ≤ ({ st with len := 38 }).len.toNat - 8 + 2 := by decide

theorem witness_FinalizeRewritesLengthAndChecksum :
    s0.txopen = false ∧ (st4.txopen = true ∧ st4.cfg.kind = .cmd ∧ 8 ≤ st4.len.toNat ∧ st4.len.toNat - 8 < 256) ∧
    (tc.txopen = true ∧ tc.cfg.kind = .tlm ∧ tc.cfg.valid = true ∧ 16 ≤ tc.len.toNat ∧
      tc.len.toNat ≤ tc.cfg.capacity) ∧
    tc.cfg.schemaAt ((tc.setBuf 2 0xEE).readBuf 2) = none ∧
    tc.cfg.schemaAt (tc.readBuf 2) = some ⟨4, false, 0x1000⟩ ∧
    SchemaEntry.lenOK ⟨4, false, 0x1000⟩ (tc3.len.toNat - 16) = false ∧
    SchemaEntry.lenOK ⟨4, false, 0x1000⟩ (({ tc3 with len := 20 }).len.toNat - 16) = true := by decide

theorem witness_SendFinalizesAndEmits :
    (∃ f r, exec .finalize s0 = .next f ∧ f.responses = s0.responses ++ [r] ∧ r.status ≠ .ok) ∧
    (∃ f r, exec .finalize st4 = .next f ∧ f.responses = st4.responses ++ [r] ∧ r.status = .ok) ∧
    s0.txopen = false ∧ (st4.txopen = true ∧ st4.cfg.kind = .cmd) ∧ (tc.txopen = true ∧ tc.cfg.kind = .tlm) ∧
    (∃ e, tc.cfg.schemaAt (({ tc with len := 20 }).readBuf 2) = some e ∧
      e.lenOK (({ tc with len := 20 }).len.toNat - 16) = true) :=
  ⟨⟨_, ⟨.noPacket, false, 0⟩, rfl, rfl, by decide⟩,
    ⟨_, ⟨.ok, false, ((st4.setBuf 3 4).imageChecksum Config.ck).setWidth 32⟩, rfl, rfl, by decide⟩, by decide, by decide,
    by decide, ⟨4, false, 0x1000⟩, by decide, by decide⟩

/-- Too short; too long; each sync byte wrong; P = 32 = M_c; P that is not n - 8; a wrong and a right checksum. -/
theorem witness_CheckBufferAcceptsAValidPacket :
    (s0.cfg.kind = .cmd ∧ s0.cfg.valid = true) ∧ (2 * (3 : DWord).toNat < 8 ∧ s0.cfg.capacity < 2 * (21 : DWord).toNat) ∧
    (8 ≤ 2 * (4 : DWord).toNat ∧ 2 * (20 : DWord).toNat ≤ s0.cfg.capacity) ∧
    (staged s0 (pkt8.set 0 0x9B)).readStage 0 ≠ 0x9A ∧ (staged s0 (pkt8.set 1 0xC4)).readStage 1 ≠ 0xC3 ∧
    ssk.readStage 0 = 0x9A ∧ ssk.readStage 1 = 0xC3 ∧
    s0.cfg.cmdMaxPayload ≤ ((staged s0 (pkt8.set 3 32)).readStage 3).toNat ∧
    8 + (ssk.readStage 3).toNat ≠ 2 * (5 : DWord).toNat ∧
    ((ssk.readStage 3).toNat < ssk.cfg.cmdMaxPayload ∧ 8 + (ssk.readStage 3).toNat = 2 * (6 : DWord).toNat) ∧
    (ssw.readStage 0 = 0x9A ∧ ssw.readStage 1 = 0xC3 ∧ (ssw.readStage 3).toNat = 4) ∧
    ckz Config.ck (ssw.stagePrefix 12) ≠ le16 (ssw.readStage 6) (ssw.readStage 7) ∧
    ckz Config.ck (ssk.stagePrefix 12) = le16 (ssk.readStage 6) (ssk.readStage 7) := by
  refine ⟨by decide, by decide, by decide, by decide, by decide, by decide, by decide, by decide, by decide, by decide,
    by decide, ?_, (ckz_sealed pkt8).trans (le16_lo16_hi16 _).symm⟩
  show ckz Config.ck (wrong pkt8) ≠ le16 (lo16 (ckz Config.ck pkt8 + 1)) (hi16 (ckz Config.ck pkt8 + 1))
  rw [ckz_wrong, le16_lo16_hi16]
  exact add_one_ne _

theorem witness_CreateStartsAPacket :
    t0.cfg.kind = .tlm ∧ t0.cfg.schemaAt 0xEE = none ∧ t0.cfg.schemaAt 0x12 = some ⟨0, false, 0x1200⟩ := by decide

/-- At L = 3 of 4 a byte fits and a word does not; at L = 4 a byte does not; at L = 2 a word fits. -/
theorem witness_AppendByteAppendsUpToTheLength :
    t0.cfg.kind = .tlm ∧ t0.cfg.valid = true ∧ t0.txopen = false ∧ tc3.txopen = true ∧ 16 ≤ tc3.len.toNat ∧
    tc3.cfg.schemaAt ((tc3.setBuf 2 0xEE).readBuf 2) = none ∧
    tc3.cfg.schemaAt (tc3.readBuf 2) = some ⟨4, false, 0x1000⟩ ∧ (tc3.len.toNat - 16) + 1 ≤ 4 ∧
    4 < (({ tc3 with len := 20 }).len.toNat - 16) + 1 := by decide

theorem witness_AppendWordAppendsUpToTheLength :
    t0.cfg.kind = .tlm ∧ t0.cfg.valid = true ∧ t0.txopen = false ∧ tc3.txopen = true ∧ 16 ≤ tc3.len.toNat ∧
    tc3.cfg.schemaAt ((tc3.setBuf 2 0xEE).readBuf 2) = none ∧
    tc3.cfg.schemaAt (tc3.readBuf 2) = some ⟨4, false, 0x1000⟩ ∧ 4 < (tc3.len.toNat - 16) + 2 ∧
    (({ tc3 with len := 18 }).len.toNat - 16) + 2 ≤ 4 := by decide

/-- Too short and too long; a wrong sync byte; an unregistered type; lengths the fixed type 0x10 and the
variable type 0x11 refuse and accept; a length that is not n - 16. -/
theorem witness_VerifyBufferAnswersAVerdict :
    t0.cfg.kind = .tlm ∧ (15 : DWord).toNat < 16 ∧ t0.cfg.capacity < (25 : DWord).toNat ∧
    16 ≤ (16 : DWord).toNat ∧ (24 : DWord).toNat ≤ t0.cfg.capacity ∧
    (staged t0 (tp.set 0 0x9B)).readStage 0 ≠ 0x9A ∧ (staged t0 (tp.set 1 0xC4)).readStage 1 ≠ 0xC3 ∧
    (tsk.readStage 0 = 0x9A ∧ tsk.readStage 1 = 0xC3) ∧
    t0.cfg.schemaAt ((staged t0 (tp.set 2 0xEE)).readStage 2) = none ∧
    t0.cfg.schemaAt (tsk.readStage 2) = some ⟨4, false, 0x1000⟩ ∧
    (le16 ((staged t0 (tp.set 4 5)).readStage 4) ((staged t0 (tp.set 4 5)).readStage 5)).toNat ≠ 4 ∧
    t0.cfg.schemaAt ((staged t0 (tp.set 2 0x11)).readStage 2) = some ⟨8, true, 0x1100⟩ ∧
    8 < (le16 ((staged t0 (tp.set 4 9)).readStage 4) ((staged t0 (tp.set 4 9)).readStage 5)).toNat ∧
    (le16 (tsk.readStage 4) (tsk.readStage 5)).toNat = 4 ∧ 16 + 4 = (20 : DWord).toNat ∧
    16 + 4 ≠ (21 : DWord).toNat := by decide

/-! #### FEED -/

theorem witness_FeedHuntsForTheFirstSyncByte :
    s0.txopen = false ∧ s0.completed = false ∧ s0.hold = false ∧ s0.len = 0 ∧ (0xC3 : Byte) ≠ 0x9A := by decide

theorem witness_FeedChecksTheSecondSyncByte :
    s1.txopen = false ∧ s1.completed = false ∧ s1.hold = false ∧ s1.len = 1 ∧ (0x9A : Byte) ≠ 0xC3 := by decide

theorem witness_FeedTakesTheCommandHeader :
    (s3.cfg.kind = .cmd ∧ s3.txopen = false ∧ s3.completed = false ∧ s3.hold = false ∧ s3.len = 3) ∧
    (receiving s0 (pkt8.take 2)).len = 2 ∧ (31 : Byte).toNat < s3.cfg.cmdMaxPayload ∧
    s3.cfg.cmdMaxPayload ≤ (32 : Byte).toNat := by decide

/-- The byte after the length byte, and the last byte. -/
theorem witness_FeedCompletesACommandPacket :
    (s11.cfg.kind = .cmd ∧ s11.txopen = false ∧ s11.completed = false ∧ s11.hold = false) ∧
    4 ≤ s11.len.toNat ∧ s11.len.toNat < 8 + (s11.readBuf 3).toNat ∧ (s11.readBuf 3).toNat < s11.cfg.cmdMaxPayload ∧
    s11.len.toNat + 1 = 8 + (s11.readBuf 3).toNat ∧
    (receiving s0 (pkt8.take 4)).len.toNat = 4 ∧
    4 + 1 < 8 + ((receiving s0 (pkt8.take 4)).readBuf 3).toNat := by decide

theorem witness_FeedTakesTheTelemetryHeader :
    (t5a.cfg.kind = .tlm ∧ t5a.txopen = false ∧ t5a.completed = false ∧ t5a.hold = false ∧ t5a.len = 5) ∧
    ((receiving t0 (tp.take 2)).len = 2 ∧ (receiving t0 (tp.take 3)).len = 3 ∧ (receiving t0 (tp.take 4)).len = 4) ∧
    (t0.cfg.schemaAt 0xEE = none ∧ t0.cfg.schemaAt 0x10 ≠ none) ∧
    t5a.cfg.schemaAt (t5a.readBuf 2) = some ⟨4, false, 0x1000⟩ ∧
    ((le16 (t5a.readBuf 4) 0).toNat = 4 ∧ (le16 (t5a.readBuf 4) 1).toNat ≠ 4) ∧
    t0.cfg.schemaAt ((receiving t0 [0x9A, 0xC3, 0x11, 0x05, 0x08]).readBuf 2) = some ⟨8, true, 0x1100⟩ ∧
    ((le16 ((receiving t0 [0x9A, 0xC3, 0x11, 0x05, 0x08]).readBuf 4) 0).toNat ≤ 8 ∧
      8 < (le16 ((receiving t0 [0x9A, 0xC3, 0x11, 0x05, 0x09]).readBuf 4) 0).toNat) := by decide

theorem witness_FeedCompletesATelemetryPacket :
    (t19.cfg.kind = .tlm ∧ t19.cfg.valid = true ∧ t19.txopen = false ∧ t19.completed = false ∧ t19.hold = false) ∧
    (6 ≤ t19.len.toNat ∧ t19.len.toNat + 1 = 16 + (le16 (t19.readBuf 4) (t19.readBuf 5)).toNat) ∧
    (t19.cfg.schemaAt (t19.readBuf 2) = some ⟨4, false, 0x1000⟩ ∧ SchemaEntry.lenOK ⟨4, false, 0x1000⟩ 4 = true) ∧
    ((receiving t0 (tp.take 6)).len.toNat = 6 ∧ 6 + 1 < 16 + 4) := by decide

/-- NOSYNC with AUTO = 1 and with AUTO = 0. -/
theorem witness_RefusedByteIsConsumedWhenOfferedAgain :
    Status.noSync.isFraming = true ∧
    (∃ t, exec (.feed 0x9A) s1 = .next t ∧ t.responses = s1.responses ++ [⟨.noSync, false, 0⟩] ∧
      s1.ctrl.getLsbD 0 = true) ∧
    (∃ t, exec (.feed 0x9A) { s1 with ctrl := 0 } = .next t ∧
      t.responses = s1.responses ++ [⟨.noSync, false, 0⟩] ∧ ({ s1 with ctrl := 0 }).ctrl.getLsbD 0 = false) :=
  ⟨rfl, ⟨_, rfl, rfl, by decide⟩, ⟨_, rfl, rfl, by decide⟩⟩

/-! #### Rules of the whole machine -/

theorem witness_ErrorStatusesChangeNothing :
    (∃ t, exec .getWord s0 = .next t ∧ t.responses = s0.responses ++ [⟨.notCompleted, false, 0⟩]) ∧
    (∃ t, exec (.feed 0x9A) sd = .next t ∧ t.responses = sd.responses ++ [⟨.held, false, 0⟩]) :=
  ⟨⟨_, rfl, rfl⟩, ⟨_, rfl, rfl⟩⟩

theorem witness_ReadOnlyOperationsAreIdempotent :
    (∃ i : Instr, i = .peekWord) ∧
    (∃ t r, exec (.checkBuffer 3) s0 = .next t ∧ t.responses = s0.responses ++ [r] ∧ r.status ≠ .ok) :=
  ⟨⟨.peekWord, rfl⟩, _, ⟨.lengthError, false, 0⟩, rfl, rfl, by decide⟩

/-- FEED of the last byte of the sealed TP is a completion. -/
theorem t19k_completes : fsmStep Config.ck 0x56 t19k = { state := t19k.append 0x56, status := .ok, acc := true } := by
  have h : (t19k.append 0x56).imageChecksum Config.ck = (t19k.append 0x56).storedChecksum :=
    (ckz_sealed tp).trans (le16_lo16_hi16 _).symm
  show bodyStep Config.ck 20 (t19k.append 0x56) = _
  unfold bodyStep
  rw [if_pos (by decide), if_pos h]

theorem t19k_feed : ∃ t, exec (.feed 0x56) t19k = .next t ∧ t.completed = true ∧ t.tag ≠ t19k.tag ∧
    t.ev.getLsbD 0 = true := by
  have e : exec (.feed 0x56) t19k = finish _ := congrArg finish (feed_step Config.ck 0x56 (by decide))
  rw [t19k_completes] at e
  exact ⟨_, e, by decide, by decide, by decide⟩

/-- A completion on a telemetry instance, with the entry whose tag is loaded. -/
theorem witness_FeedHasOneOfFourOutcomes :
    t19k.cfg.kind = .tlm ∧ t19k.cfg.schemaAt (t19k.readBuf 2) = some ⟨4, false, 0x1000⟩ ∧
    ∃ t, exec (.feed 0x56) t19k = .next t ∧ t.completed = true := by
  obtain ⟨t, h, hc, -⟩ := t19k_feed
  exact ⟨rfl, by decide, t, h, hc⟩

/-- Each kind of write, by an operation that makes it. -/
theorem witness_OnlyTheListedOperationsWrite :
    (∃ t, exec (.writeByte 8 0xAB) st4 = .next t ∧ ∃ k, t.readBuf k ≠ st4.readBuf k) ∧
    (∃ t, exec (.stageWrite 0 0) tsk = .next t ∧ ∃ k, t.readStage k ≠ tsk.readStage k) ∧
    (∃ t, exec (.feed 0x55) s1 = .next t ∧ t.errcnt ≠ s1.errcnt ∧ s1.ev.getLsbD 1 = false ∧
      t.ev.getLsbD 1 = true) ∧
    (∃ t, exec .resetOutput s0 = .next t ∧ t.seq ≠ s0.seq) ∧
    (∃ t, exec (.feed 0x56) t19k = .next t ∧ t.completed = true ∧ t.tag ≠ t19k.tag ∧ t.ev.getLsbD 0 = true) ∧
    (∃ t, exec (.wrCtrl 7) s0 = .next t ∧ t.ctrl ≠ s0.ctrl) ∧
    (∃ t, exec .send st4 = .next t ∧ t.txout ≠ st4.txout) ∧
    (∃ t, exec (.ackEv 3) sd = .next t ∧ sd.ev.getLsbD 0 = true ∧ t.ev.getLsbD 0 = false) :=
  ⟨⟨_, rfl, 8, by decide⟩, ⟨_, rfl, 0, by decide⟩, ⟨_, rfl, by decide⟩, ⟨_, rfl, by decide⟩, t19k_feed,
    ⟨_, rfl, by decide⟩, ⟨_, rfl, fun h => absurd (congrArg List.length h) (by decide)⟩, ⟨_, rfl, by decide⟩⟩

/-- The same for LEN, RIDX, LASTFEED, COMPLETED, HOLD, TXOPEN and ALTERED (COMPLETED is set by `t19k_feed`). -/
theorem witness_OnlyTheListedOperationsWrite_flags :
    (∃ t, exec (.feed 0x9A) s0 = .next t ∧ t.len ≠ s0.len) ∧
    (∃ t, exec .getWord sd = .next t ∧ t.ridx ≠ sd.ridx) ∧
    (∃ t, exec (.feed 0x55) s1 = .next t ∧ t.lastfeed ≠ s1.lastfeed) ∧
    (t19k.completed = false ∧ ∃ t, exec (.feed 0x56) t19k = .next t ∧ t.completed = true) ∧
    (∃ t, exec .reset sd = .next t ∧ sd.completed = true ∧ t.completed = false) ∧
    (∃ t, exec (.feed 0x55) { s1 with ctrl := 6 } = .next t ∧ s1.hold = false ∧ t.hold = true) ∧
    (∃ t, exec .clrHold { s0 with hold := true } = .next t ∧ t.hold = false) ∧
    (∃ t, exec .resetOutput s0 = .next t ∧ s0.txopen = false ∧ t.txopen = true ∧ s0.altered = false ∧
      t.altered = true) ∧
    (∃ t, exec .reset st4 = .next t ∧ st4.txopen = true ∧ t.txopen = false ∧ st4.altered = true ∧
      t.altered = false) :=
  ⟨⟨_, rfl, by decide⟩, ⟨_, rfl, by decide⟩, ⟨_, rfl, by decide⟩,
    ⟨rfl, t19k_feed.elim fun t h => ⟨t, h.1, h.2.1⟩⟩, ⟨_, rfl, by decide⟩, ⟨_, rfl, by decide⟩, ⟨_, rfl, by decide⟩,
    ⟨_, rfl, by decide⟩, ⟨_, rfl, by decide⟩⟩

theorem witness_LazyAndEagerChecksumsAgree : ∃ i : Instr, i = .setChecksum ∨ i = .finalize := ⟨.finalize, .inr rfl⟩

theorem witness_TelemetryLengthIsEnforced :
    (t19k.cfg.kind = .tlm ∧ Invariants Config.ck t19k ∧ t19k.completed = false ∧
      ∃ t, exec (.feed 0x56) t19k = .next t ∧ t.completed = true ∧ t.tag ≠ t19k.tag ∧ t.ev.getLsbD 0 = true) ∧
    (tsk.cfg.kind = .tlm ∧ ∃ t, exec (.verifyBuffer 20) tsk = .next t ∧
      t.responses = tsk.responses ++ [⟨.ok, false, 0⟩]) := by
  refine ⟨⟨rfl, t19k_invariants, rfl, t19k_feed⟩, rfl, ?_⟩
  have h : ckz Config.ck (tsk.stagePrefix 20) = tsk.readStageWord 6 :=
    (ckz_sealed tp).trans (le16_lo16_hi16 _).symm
  have v : verifyBufferStatus Config.ck 20 tsk = .ok := by
    show (if ckz Config.ck (tsk.stagePrefix 20) ≠ tsk.readStageWord 6 then Status.crcError else Status.ok) = .ok
    rw [if_neg (by simpa using h)]
  have e : exec (.verifyBuffer 20) tsk = finish (tsk.reply (verifyBufferStatus Config.ck 20 tsk)) := rfl
  rw [v] at e
  exact ⟨_, e, rfl⟩

/-- A split in the header; a packet that ends in the first part; a hold that stops the first part. -/
theorem witness_SplitReadsAgree :
    (processBuffer ckTest (pkt8.take 5) s0).status = .incomplete ∧ (processBuffer ckTest pkt8 s0).status ≠ .incomplete ∧
    ((processInput ckTest (0x9A :: pkt8.take 5) 0 s0).completed = false ∧
      (processInput ckTest (0x9A :: pkt8.take 5) 0 s0).consumed = 6) ∧
    (processInput ckTest pkt8 0 s0).completed = true ∧ (processInput ckTest pkt8 0 sd).consumed < pkt8.length := by
  decide

theorem witness_EmittedPacketsAreAccepted :
    (st4.cfg.valid = true ∧ st4.cfg.headerSize ≤ st4.len.toNat ∧ st4.len.toNat ≤ st4.cfg.capacity ∧
      st4.readBuf 0 = 0x9A ∧ st4.readBuf 1 = 0xC3 ∧ st4.len.toNat - 8 < st4.cfg.cmdMaxPayload ∧
      ∃ t d, send ckTest st4 = (t, ⟨.ok, false, d⟩)) ∧
    (tc3.cfg.valid = true ∧ 20 ≤ tc3.cfg.capacity ∧ tc3.readBuf 0 = 0x9A ∧ tc3.readBuf 1 = 0xC3 ∧
      ∃ t d, send ckTest ((tc3.setBuf 19 0x44).softReset.openOutput 20) = (t, ⟨.ok, false, d⟩)) ∧
    (s0.cfg = st4.cfg ∧ t0.cfg = tc3.cfg ∧ s0.txopen = false ∧ s0.completed = false ∧ s0.hold = false ∧
      s0.len = 0 ∧ t0.len = 0) :=
  ⟨⟨by decide, by decide, by decide, by decide, by decide, by decide, _, _, rfl⟩,
    ⟨by decide, by decide, by decide, by decide, _, _, rfl⟩, by decide⟩

end Sys2Proof.Tests
end

section
/-! PROOFS. The requests that BAD_COMMAND turns away before an operation's own rule is reached
(spec/30_encoding.md R85 to R88): first what the decoder accepts, as a row of the opcode table, then the
answer to the words it does not accept and to the operations of the other KIND. -/

namespace Sys2Proof

/-! ### The row of an instruction (R83, R84) -/

/-- The width of the operand in A, 0 where A is no operand (R84). -/
def Instr.operandWidth : Instr → Nat
  | .wrCtrl _ => 3
  | .ackEv _ => 2
  | .feed _ | .writeByte _ _ | .stageWrite _ _ | .setTarget _ | .create _ | .appendByte _ => 8
  | .rdReg _ | .writeWord _ _ | .addWord _ | .appendWord _ => 16
  | .nop | .reset | .clrHold | .clrErrcnt | .getWord | .peekWord | .readByte _ | .readWord _ | .setChecksum
  | .verifyChecksum | .finalize | .send | .resetOutput | .checkBuffer _ | .verifyBuffer _ => 0

/-- The bits of B that are reserved: none where B is an offset or a length, else all (R84). -/
def Instr.reservedB : Instr → DWord
  | .readByte _ | .readWord _ | .writeByte _ _ | .writeWord _ _ | .stageWrite _ _ | .checkBuffer _
  | .verifyBuffer _ => 0
  | .nop | .reset | .feed _ | .clrHold | .wrCtrl _ | .rdReg _ | .ackEv _ | .clrErrcnt | .getWord | .peekWord
  | .setChecksum | .verifyChecksum | .finalize | .send | .resetOutput | .setTarget _ | .addWord _ | .create _
  | .appendByte _ | .appendWord _ => BitVec.allOnes 32

/-- The fields an instruction's row fixes (R83, R84): OP, RSV, the bits of A above the operand, and B where it
is no operand. -/
def Instr.mask (i : Instr) : RequestFields where
  op := BitVec.allOnes 8
  rsv := BitVec.allOnes 8
  a := BitVec.allOnes 16 <<< i.operandWidth
  b := i.reservedB

/-- The row of the opcode table that an instruction belongs to. -/
def Instr.row (i : Instr) : PortWord × PortWord :=
  (RequestFields.toWord { op := opcode i, rsv := 0, a := 0, b := 0 }, i.mask.toWord)

theorem Instr.row_mem_opcodeRows (i : Instr) : i.row ∈ Machine.opcodeRows := by
  cases i <;> simp only [row, mask, opcode, operandWidth, reservedB] <;> decide

/-! ### What the decoder accepts -/

/-- What the fields of a request satisfy where they are decoded to `i`: the OP, and no reserved bit of A or B
set. -/
structure RequestFields.FitsRow (f : RequestFields) (i : Instr) : Prop where
  op : f.op = opcode i
  a : f.a.toNat < 2 ^ i.operandWidth
  b : f.b &&& i.reservedB = 0

/-- The opcode map answers only instructions whose row the fields fit. -/
theorem decodeOp_fitsRow {f : RequestFields} {i : Instr} (h : decodeOp f = .ok i) : f.FitsRow i := by
  unfold decodeOp at h
  simp only [decodeNone, decodeB] at h
  split at h
  case h_28 => cases h
  -- the operations with an offset or a length in B
  case h_11 hop | h_12 hop | h_13 hop | h_14 hop | h_15 hop | h_23 hop | h_27 hop =>
    obtain ⟨ha, rfl⟩ := decodeAB_ok_iff.1 h
    exact ⟨BitVec.eq_of_toNat_eq hop, ha, BitVec.and_zero⟩
  all_goals
    rename_i hop
    obtain ⟨ha, hb, rfl⟩ := decodeA_ok_iff.1 h
    exact ⟨BitVec.eq_of_toNat_eq hop, ha, by rw [hb]; exact BitVec.zero_and⟩

/-- AND acts on the fields of a request word one by one. -/
theorem RequestFields.ofWord_and (w m : PortWord) :
    ofWord (w &&& m) =
      { op := (ofWord w).op &&& (ofWord m).op, rsv := (ofWord w).rsv &&& (ofWord m).rsv,
        a := (ofWord w).a &&& (ofWord m).a, b := (ofWord w).b &&& (ofWord m).b } := by
  simp only [ofWord, BitVec.extractLsb'_and]

/-- A word below `2 ^ n` has no bit at or above position `n`. -/
theorem and_allOnes_shiftLeft_eq_zero {a : Word} {n : Nat} (h : a.toNat < 2 ^ n) :
    a &&& BitVec.allOnes 16 <<< n = 0 := by
  apply BitVec.eq_of_getLsbD_eq
  intro k hk
  by_cases hkn : k < n
  · simp [hkn]
  · have : a.getLsbD k = false :=
      Nat.testBit_lt_two_pow (h.trans_le (Nat.pow_le_pow_right two_pos (not_lt.1 hkn)))
    simp [this]

/-- A word that decodes matches the row of its instruction (R83 to R86). -/
theorem and_row_of_decode {w : PortWord} {i : Instr} (h : decode w = .ok i) : w &&& i.row.2 = i.row.1 := by
  obtain ⟨hrsv, hdec⟩ := decode_ok_iff.1 h
  obtain ⟨hop, ha, hb⟩ := decodeOp_fitsRow hdec
  have hfields : RequestFields.ofWord (w &&& i.mask.toWord) = { op := opcode i, rsv := 0, a := 0, b := 0 } := by
    rw [RequestFields.ofWord_and, RequestFields.ofWord_toWord]
    simp only [Instr.mask, hop, hrsv, hb, and_allOnes_shiftLeft_eq_zero ha, BitVec.and_allOnes]
  calc w &&& i.mask.toWord
      = (RequestFields.ofWord (w &&& i.mask.toWord)).toWord := (RequestFields.toWord_ofWord _).symm
    _ = i.row.1 := congrArg RequestFields.toWord hfields

/-! ### The opcode table -/

/-- No two rows have the same OP. -/
theorem opcodeRows_nodup_op : (Machine.opcodeRows.map Prod.fst).Nodup := by
  decide

/-- The OP of a request word, in place. -/
theorem and_op_eq_toWord (w : PortWord) :
    w &&& 0xFF = RequestFields.toWord { op := (RequestFields.ofWord w).op, rsv := 0, a := 0, b := 0 } := by
  have h255 : RequestFields.ofWord 0xFF = { op := BitVec.allOnes 8, rsv := 0, a := 0, b := 0 } := by decide
  rw [← RequestFields.toWord_ofWord (w &&& 0xFF), RequestFields.ofWord_and, h255]
  simp only [BitVec.and_allOnes, BitVec.ofNat_eq_ofNat, BitVec.and_zero]

/-- A word that decodes has the OP of its instruction. -/
theorem op_of_decode {w : PortWord} {i : Instr} (h : decode w = .ok i) : (RequestFields.ofWord w).op = opcode i :=
  (decodeOp_fitsRow (decode_ok_iff.1 h).2).op

/-- A word that decodes has no bit set that the row of its OP reserves (R85). -/
theorem and_row_of_decode_of_op {w : PortWord} {i : Instr} {row : PortWord × PortWord} (h : decode w = .ok i)
    (hrow : row ∈ Machine.opcodeRows) (hop : w &&& 0xFF = row.1) : w &&& row.2 = row.1 := by
  have hfst : i.row.1 = row.1 := by rw [← hop, and_op_eq_toWord, op_of_decode h]; rfl
  have heq : i.row = row := List.inj_on_of_nodup_map opcodeRows_nodup_op i.row_mem_opcodeRows hrow hfst
  exact heq ▸ and_row_of_decode h

/-- The ranges of OP that the table of R83 leaves undefined (R86). -/
def UndefinedOp (op : Nat) : Prop :=
  (0x13 ≤ op ∧ op ≤ 0x1F) ∨ (0x24 ≤ op ∧ op ≤ 0x2F) ∨ (0x34 ≤ op ∧ op ≤ 0xFF)

theorem not_undefinedOp_opcode (i : Instr) : ¬UndefinedOp (opcode i).toNat := by
  cases i <;> simp [UndefinedOp, opcode]

/-- A word whose OP is undefined does not decode. -/
theorem not_undefinedOp_of_decode {w : PortWord} {i : Instr} (h : decode w = .ok i) :
    ¬UndefinedOp (w.toNat % 256) := by
  have hop : w.toNat % 256 = (opcode i).toNat := by
    rw [← op_of_decode h]
    simp [RequestFields.ofWord]
  rw [hop]
  exact not_undefinedOp_opcode i

/-! ### The KIND of an operation -/

/-- R87: the operations not defined for KIND `k` are the other KIND's range of OP. -/
theorem Instr.definedFor_eq_false_iff {i : Instr} {k : Kind} :
    i.definedFor k = false ↔
      (k = .tlm ∧ 0x20 ≤ (opcode i).toNat ∧ (opcode i).toNat ≤ 0x23) ∨
      (k = .cmd ∧ 0x30 ≤ (opcode i).toNat ∧ (opcode i).toNat ≤ 0x33) := by
  cases i <;> cases k <;> simp [Instr.definedFor, opcode]

namespace Machine

/-- R88: the answer to a request that does not decode. -/
theorem step_of_decode_error {s : State} {w : PortWord} {rest : List HostEvent} {e : DecodeError}
    (hv : s.cfg.valid = true) (hp : s.pending = .request w :: rest) (hd : decode w = .error e) :
    step s = .next ({ s with pending := rest }.record ⟨.badCommand, false, 0⟩) := by
  simp only [step, takeInput, hv, hp, hd, if_true, rejectRequest, finish_eq, State.reply_fst, State.reply_snd]

theorem finish_onlyFor_other {k : Kind} {s : State} (r : Reply) (h : s.cfg.kind ≠ k) :
    finish (onlyFor k s r) = .next (s.record ⟨.badCommand, false, 0⟩) := by
  rw [onlyFor_other r h, finish_eq, State.reply_fst, State.reply_snd]

/-- R87: an operation not defined for the KIND answers BAD_COMMAND, and nothing else happens. -/
theorem exec_of_not_definedFor {i : Instr} {s : State} (h : i.definedFor s.cfg.kind = false) :
    exec i s = .next (s.record ⟨.badCommand, false, 0⟩) := by
  cases i
  case resetOutput | setTarget | addWord | checkBuffer =>
    exact finish_onlyFor_other (k := .cmd) _ (by simpa [Instr.definedFor] using h)
  case create | appendByte | appendWord | verifyBuffer =>
    exact finish_onlyFor_other (k := .tlm) _ (by simpa [Instr.definedFor] using h)
  all_goals simp [Instr.definedFor] at h

end Machine
end Sys2Proof

/-! ### The statements -/

namespace Sys2Proof.Proofs
open Sys2Proof Sys2Proof.Machine

/-- Settles O5: a word that decodes matches the row of its OP, so a word of the statement does not decode. -/
theorem undecodableRequestAnswersBadCommand : Obligations.UndecodableRequestAnswersBadCommand := by
  intro s w rest hv hp op hbad
  cases hd : decode w with
  | error e => exact step_of_decode_error hv hp hd
  | ok i =>
    have hdef : ¬UndefinedOp op := not_undefinedOp_of_decode hd
    rcases hbad with h | h | h | ⟨row, hrow, hop, hres⟩
    · exact absurd (.inl h) hdef
    · exact absurd (.inr (.inl h)) hdef
    · exact absurd (.inr (.inr h)) hdef
    · exact absurd (and_row_of_decode_of_op hd hrow hop) hres

/-- Settles O6: the OP ranges are those of the operations not defined for the KIND. -/
theorem otherKindRequestAnswersBadCommand : Obligations.OtherKindRequestAnswersBadCommand :=
  fun _ _ h => exec_of_not_definedFor (Instr.definedFor_eq_false_iff.2 h)

end Sys2Proof.Proofs
end

section
/-! PROOFS. The two checksum operations (spec/40_checksum.md R125, R126): what a request answers with and
without a packet, and that sealing a packet whose stored checksum is right changes no byte. -/

namespace Sys2Proof.Machine

/-! ### A packet is present -/

theorem State.packetPresent_iff (s : State) : s.packetPresent = true ↔ s.txopen = true ∨ s.completed = true := by
  simp [State.packetPresent]

theorem State.packetPresent_eq_false_iff (s : State) :
    s.packetPresent = false ↔ s.txopen = false ∧ s.completed = false := by
  simp [State.packetPresent]

/-! ### The stored checksum and the sealed one -/

/-- The low byte of the stored checksum is BUF[6] (R124). -/
theorem State.lo16_storedChecksum (s : State) : lo16 s.storedChecksum = s.readBuf 6 := lo16_le16 _ _

/-- The high byte of the stored checksum is BUF[7] (R124). -/
theorem State.hi16_storedChecksum (s : State) : hi16 s.storedChecksum = s.readBuf 7 := hi16_le16 _ _

/-- Sealing a packet whose stored checksum is right writes the bytes it already has. -/
theorem State.readBuf_sealChecksum_of_valid {ck : Checksum} {s : State}
    (h : s.imageChecksum ck = s.storedChecksum) (k : Nat) : (s.sealChecksum ck).readBuf k = s.readBuf k := by
  rw [State.readBuf_sealChecksum, h, State.hi16_storedChecksum, State.lo16_storedChecksum]
  split
  case isTrue h7 => rw [h7]
  case isFalse =>
    split
    case isTrue h6 => rw [h6]
    case isFalse => rfl

/-! ### SET_CHECKSUM -/

theorem exec_setChecksum_of_absent {s : State} (h : s.packetPresent = false) :
    exec .setChecksum s = .next (s.record ⟨.noPacket, false, 0⟩) := by
  rcases setChecksum_cases Config.ck s with ⟨-, hr⟩ | ⟨hp, -⟩
  · exact congrArg finish hr
  · exact absurd (h.symm.trans hp) Bool.false_ne_true

theorem exec_setChecksum_of_present {s : State} (h : s.packetPresent = true) :
    exec .setChecksum s =
      .next ((s.sealChecksum Config.ck).record ⟨.ok, false, (s.imageChecksum Config.ck).setWidth 32⟩) := by
  rcases setChecksum_cases Config.ck s with ⟨hp, -⟩ | ⟨-, hr⟩
  · exact absurd (hp.symm.trans h) Bool.false_ne_true
  · exact congrArg finish hr

/-! ### VERIFY_CHECKSUM -/

theorem exec_verifyChecksum_of_absent {s : State} (h : s.packetPresent = false) :
    exec .verifyChecksum s = .next (s.record ⟨.noPacket, false, 0⟩) := by
  rcases verifyChecksum_cases Config.ck s with ⟨-, hr⟩ | ⟨hp, -⟩ | ⟨hp, -⟩
  · exact congrArg finish hr
  · exact absurd (h.symm.trans hp) Bool.false_ne_true
  · exact absurd (h.symm.trans hp) Bool.false_ne_true

theorem exec_verifyChecksum_of_present {s : State} (h : s.packetPresent = true) :
    exec .verifyChecksum s = .next (s.record
      ⟨if s.imageChecksum Config.ck = s.storedChecksum then .ok else .crcError, false,
        (s.imageChecksum Config.ck).setWidth 32⟩) := by
  rcases verifyChecksum_cases Config.ck s with ⟨hp, -⟩ | ⟨-, heq, hr⟩ | ⟨-, hne, hr⟩
  · exact absurd (hp.symm.trans h) Bool.false_ne_true
  · rw [if_pos heq]
    exact congrArg finish hr
  · rw [if_neg hne]
    exact congrArg finish hr

end Sys2Proof.Machine

/-! ### The statements -/

namespace Sys2Proof.Proofs
open Sys2Proof Sys2Proof.Machine

/-- Settles O33: with a packet present the next state is the sealed one, with the response recorded; a completed
packet has the right checksum already (R46, invariant 4). -/
theorem setChecksumStoresTheChecksum : Obligations.SetChecksumStoresTheChecksum := by
  refine ⟨Laws.FieldsOfEncode.setChecksum, fun s => ⟨fun ht hc => ?_, fun hp => ?_⟩⟩
  · exact exec_setChecksum_of_absent (s.packetPresent_eq_false_iff.2 ⟨ht, hc⟩)
  · refine ⟨_, s.imageChecksum Config.ck, exec_setChecksum_of_present (s.packetPresent_iff.2 hp), rfl, ?_, ?_, ?_,
      rfl, ?_⟩
    · simp [State.readBuf_sealChecksum]
    · simp [State.readBuf_sealChecksum]
    · intro k h6 h7
      simp [State.readBuf_sealChecksum, h6, h7]
    · intro hinv hc k
      rw [State.readBuf_record]
      exact State.readBuf_sealChecksum_of_valid (hinv.done hc).checksum k

/-- Settles O34: the three answers of VERIFY_CHECKSUM; for a completed packet the comparison is invariant 4 of
R46. -/
theorem verifyChecksumComparesTheChecksum : Obligations.VerifyChecksumComparesTheChecksum := by
  refine ⟨Laws.FieldsOfEncode.verifyChecksum, fun s => ⟨fun ht hc => ?_, fun hp => ?_, fun hinv hc => ?_⟩⟩
  · exact exec_verifyChecksum_of_absent (s.packetPresent_eq_false_iff.2 ⟨ht, hc⟩)
  · exact exec_verifyChecksum_of_present (s.packetPresent_iff.2 hp)
  · have hvalid : s.imageChecksum Config.ck = s.storedChecksum := (hinv.done hc).checksum
    have hexec := exec_verifyChecksum_of_present (s.packetPresent_iff.2 (.inr hc))
    rw [if_pos hvalid] at hexec
    exact hexec

end Sys2Proof.Proofs
end

section
/-! PROOFS. The buffer accesses at an explicit offset and the read cursor (spec/41_buffer.md R141 to R149): the
answer of each instruction under each of its checks, then what the answered state reads as. -/

namespace Sys2Proof.Machine

/-! ### Accesses in every phase (R142, R143, R144, R147) -/

theorem State.inRange_iff (s : State) (offset : DWord) (k : Nat) :
    s.inRange offset k = true ↔ offset.toNat + k ≤ s.cfg.capacity :=
  decide_eq_true_iff

theorem exec_readByte_of_le {s : State} {offset : DWord} (h : offset.toNat + 1 ≤ s.cfg.capacity) :
    exec (.readByte offset) s = .next (s.record ⟨.ok, false, (s.readBuf offset.toNat).setWidth 32⟩) :=
  congrArg finish (if_pos ((s.inRange_iff offset 1).2 h))

theorem exec_readByte_of_lt {s : State} {offset : DWord} (h : s.cfg.capacity < offset.toNat + 1) :
    exec (.readByte offset) s = .next (s.record ⟨.outOfRange, false, 0⟩) :=
  congrArg finish (if_neg (mt (s.inRange_iff offset 1).1 (Nat.not_le_of_lt h)))

theorem exec_readWord_of_le {s : State} {offset : DWord} (h : offset.toNat + 2 ≤ s.cfg.capacity) :
    exec (.readWord offset) s = .next (s.record ⟨.ok, false, (s.readBufWord offset.toNat).setWidth 32⟩) :=
  congrArg finish (if_pos ((s.inRange_iff offset 2).2 h))

theorem exec_readWord_of_lt {s : State} {offset : DWord} (h : s.cfg.capacity < offset.toNat + 2) :
    exec (.readWord offset) s = .next (s.record ⟨.outOfRange, false, 0⟩) :=
  congrArg finish (if_neg (mt (s.inRange_iff offset 2).1 (Nat.not_le_of_lt h)))

theorem exec_stageWrite_of_le {s : State} {offset : DWord} (v : Byte) (h : offset.toNat + 1 ≤ s.cfg.capacity) :
    exec (.stageWrite offset v) s = .next ((s.setStage offset.toNat v).record ⟨.ok, false, 0⟩) :=
  congrArg finish (if_pos ((s.inRange_iff offset 1).2 h))

theorem exec_stageWrite_of_lt {s : State} {offset : DWord} (v : Byte) (h : s.cfg.capacity < offset.toNat + 1) :
    exec (.stageWrite offset v) s = .next (s.record ⟨.outOfRange, false, 0⟩) :=
  congrArg finish (if_neg (mt (s.inRange_iff offset 1).1 (Nat.not_le_of_lt h)))

/-- The value of a word of BUF on the 32-bit data word (R62, R144). -/
theorem State.toNat_readBufWord_setWidth (s : State) (k : Nat) :
    ((s.readBufWord k).setWidth 32).toNat = (s.readBuf k).toNat + 256 * (s.readBuf (k + 1)).toNat := by
  rw [BitVec.toNat_setWidth_of_le (by decide)]
  exact toNat_le16 _ _

/-! ### Writes to an output packet (R145, R146) -/

theorem State.writeAt_of_closed {s : State} (offset : DWord) (k : Nat) (written : State) (h : s.txopen = false) :
    s.writeAt offset k written = s.reply .noPacket := by
  simpa [h] using s.writeAt_cases offset k written

theorem State.writeAt_of_lt {s : State} {offset : DWord} {k : Nat} (written : State) (h : s.txopen = true)
    (hlt : s.cfg.capacity < offset.toNat + k) : s.writeAt offset k written = s.reply .outOfRange := by
  simpa [h, hlt, Nat.not_le_of_lt hlt] using s.writeAt_cases offset k written

theorem State.writeAt_of_le {s : State} {offset : DWord} {k : Nat} (written : State) (h : s.txopen = true)
    (hle : offset.toNat + k ≤ s.cfg.capacity) :
    s.writeAt offset k written = { written with altered := true }.reply .ok := by
  simpa [h, hle, Nat.not_lt_of_le hle] using s.writeAt_cases offset k written

/-! ### The read cursor (R141, R148, R149) -/

theorem State.readCursor_of_not_completed {s : State} (next : BitVec 16) (h : s.completed = false) :
    s.readCursor next = s.reply .notCompleted := by
  simpa [h] using s.readCursor_cases next

theorem State.readCursor_of_lt {s : State} (next : BitVec 16) (h : s.completed = true)
    (hlt : s.declared < 2 * s.ridx.toNat + 2) : s.readCursor next = s.reply .endOfPacket := by
  simpa [h, hlt, Nat.not_le_of_lt hlt] using s.readCursor_cases next

theorem State.readCursor_of_le {s : State} (next : BitVec 16) (h : s.completed = true)
    (hle : 2 * s.ridx.toNat + 2 ≤ s.declared) :
    s.readCursor next = { s with ridx := next }.reply .ok ((s.readBufWord s.cursorOffset).setWidth 32) := by
  simpa [h, hle, Nat.not_lt_of_le hle] using s.readCursor_cases next

/-- The response of the cursor does not depend on where it is left. -/
theorem State.readCursor_snd_eq (s : State) (next next' : BitVec 16) :
    (s.readCursor next).2 = (s.readCursor next').2 := by
  rcases s.readCursor_cases next with ⟨hc, hr⟩ | ⟨hc, hlt, hr⟩ | ⟨hc, hle, hr⟩
  · rw [hr, readCursor_of_not_completed next' hc]
  · rw [hr, readCursor_of_lt next' hc hlt]
  · rw [hr, readCursor_of_le next' hc hle]
    rfl

/-- Recording a response does not change what the cursor answers (R149). -/
theorem State.readCursor_record_snd (s : State) (r : Response) (next : BitVec 16) :
    ((s.record r).readCursor next).2 = (s.readCursor next).2 := by
  rcases s.readCursor_cases next with ⟨hc, hr⟩ | ⟨hc, hlt, hr⟩ | ⟨hc, hle, hr⟩
  · rw [hr, readCursor_of_not_completed (s := s.record r) next hc]
    rfl
  · rw [hr, readCursor_of_lt (s := s.record r) next hc hlt]
    rfl
  · rw [hr, readCursor_of_le (s := s.record r) next hc hle]
    rfl

theorem State.readCursor_fst_responses (s : State) (next : BitVec 16) :
    (s.readCursor next).1.responses = s.responses := by
  rcases s.readCursor_cases next with ⟨-, hr⟩ | ⟨-, -, hr⟩ | ⟨-, -, hr⟩ <;> rw [hr] <;> rfl

/-- A cursor left where it is leaves the state (R149). -/
theorem State.readCursor_ridx_fst (s : State) : (s.readCursor s.ridx).1 = s := by
  rcases s.readCursor_cases s.ridx with ⟨-, hr⟩ | ⟨-, -, hr⟩ | ⟨-, -, hr⟩ <;> rw [hr] <;> rfl

/-- R149: the next state of PEEK_WORD is the state with the response recorded. -/
theorem exec_peekWord (s : State) : exec .peekWord s = .next (s.record (s.readCursor s.ridx).2) := by
  have hexec : exec .peekWord s = finish (s.readCursor s.ridx) := rfl
  rw [hexec, finish_eq, State.readCursor_ridx_fst]

/-- The declared payload length fits a word (R12). -/
theorem State.declared_lt (s : State) : s.declared < 65536 := by
  unfold State.declared
  split
  · exact (s.readBuf 3).isLt.trans (by decide)
  · exact (s.readBufWord 4).isLt

/-- Where a word is left to read, the cursor advances without wrapping. -/
theorem State.toNat_ridx_add_one {s : State} (h : 2 * s.ridx.toNat + 2 ≤ s.declared) :
    (s.ridx + 1).toNat = s.ridx.toNat + 1 := by
  have hdecl := s.declared_lt
  apply BitVec.toNat_add_of_lt
  simp only [BitVec.ofNat_eq_ofNat, BitVec.toNat_ofNat]
  omega

end Sys2Proof.Machine

/-! ### The statements -/

namespace Sys2Proof.Proofs
open Sys2Proof Sys2Proof.Machine

/-- Settles O26: the byte is in range where its offset is below CAP. -/
theorem readByteReturnsTheByte : Obligations.ReadByteReturnsTheByte :=
  fun off => ⟨Laws.FieldsOfEncode.readByte off, fun _ =>
    ⟨fun h => exec_readByte_of_le h, fun h => exec_readByte_of_lt (Nat.lt_succ_of_le h)⟩⟩

/-- Settles O27: DATA is the zero-extended word, whose value is that of its two bytes. -/
theorem readWordReturnsTwoBytes : Obligations.ReadWordReturnsTwoBytes :=
  fun off => ⟨Laws.FieldsOfEncode.readWord off, fun s =>
    ⟨fun h => ⟨_, exec_readWord_of_le h, s.toNat_readBufWord_setWidth off.toNat⟩, fun h => exec_readWord_of_lt h⟩⟩

/-- Settles O28: the checks in their order, then the one byte, read back at its own and at another offset. -/
theorem writeByteWritesOneByte : Obligations.WriteByteWritesOneByte := by
  refine fun off v => ⟨Laws.FieldsOfEncode.writeByte off v,
    fun s => ⟨fun ht => ?_, fun ht hlt => ?_, fun ht hle => ?_⟩⟩
  · exact congrArg finish (State.writeAt_of_closed off 1 _ ht)
  · exact congrArg finish (State.writeAt_of_lt _ ht hlt)
  · refine ⟨_, congrArg finish (State.writeAt_of_le _ ht hle), ?_, fun k hk => ?_, rfl⟩
    · exact (s.readBuf_setBuf off.toNat off.toNat v).trans (if_pos ⟨rfl, hle⟩)
    · exact (s.readBuf_setBuf off.toNat k v).trans (if_neg (mt And.left hk))

/-- Settles O29: as WRITE_BYTE, with the low byte at the offset and the high byte above it. -/
theorem writeWordWritesTwoBytes : Obligations.WriteWordWritesTwoBytes := by
  refine fun off w => ⟨Laws.FieldsOfEncode.writeWord off w,
    fun s => ⟨fun ht => ?_, fun ht hlt => ?_, fun ht hle => ?_⟩⟩
  · exact congrArg finish (State.writeAt_of_closed off 2 _ ht)
  · exact congrArg finish (State.writeAt_of_lt _ ht hlt)
  · refine ⟨_, congrArg finish (State.writeAt_of_le _ ht hle), ?_, ?_, fun k hk hk' => ?_, rfl⟩
    · exact (s.readBuf_setBufWord off.toNat off.toNat w).trans
        ((if_neg (by omega)).trans (if_pos ⟨rfl, by omega⟩))
    · exact (s.readBuf_setBufWord off.toNat (off.toNat + 1) w).trans (if_pos ⟨rfl, hle⟩)
    · exact (s.readBuf_setBufWord off.toNat k w).trans
        ((if_neg (mt And.left hk')).trans (if_neg (mt And.left hk)))

/-- Settles O30: a write to STAGE, read back; BUF and its draw are not touched. -/
theorem stageWriteWritesOneByte : Obligations.StageWriteWritesOneByte := by
  refine fun off v => ⟨Laws.FieldsOfEncode.stageWrite off v, fun s => ⟨exec_stageWrite_of_lt v, fun hle => ?_⟩⟩
  refine ⟨_, exec_stageWrite_of_le v hle, ?_, fun k hk => ?_, fun k => State.readBuf_congr rfl rfl k, rfl⟩
  · exact (s.readStage_setStage off.toNat off.toNat v).trans (if_pos ⟨rfl, hle⟩)
  · exact (s.readStage_setStage off.toNat k v).trans (if_neg (mt And.left hk))

/-- Settles O31: the three answers of the cursor; it advances by one because the declared length fits a word. -/
theorem getWordReadsAndAdvances : Obligations.GetWordReadsAndAdvances := by
  refine ⟨Laws.FieldsOfEncode.getWord, fun s => ?_⟩
  intro decl o
  have hdecl : decl = s.declared := rfl
  rw [hdecl]
  refine ⟨fun hc => ?_, fun hc hlt => ?_, fun hc hle => ?_⟩
  · exact congrArg finish (State.readCursor_of_not_completed _ hc)
  · exact congrArg finish (State.readCursor_of_lt _ hc hlt)
  · exact ⟨_, _, congrArg finish (State.readCursor_of_le _ hc hle), rfl, State.toNat_ridx_add_one hle,
      fun k => State.readBuf_congr rfl rfl k, rfl⟩

/-- Settles O32: the response is the cursor's, whichever way the cursor is left. -/
theorem peekWordChangesNothing : Obligations.PeekWordChangesNothing := by
  refine ⟨Laws.FieldsOfEncode.peekWord,
    fun s => ⟨(s.readCursor s.ridx).2, exec_peekWord s, ?_, ?_, fun hc hle => ?_⟩⟩
  · rw [exec_peekWord, State.record_ridx, State.readCursor_record_snd]
  · refine ⟨_, rfl, ?_⟩
    rw [State.record_responses, State.readCursor_fst_responses, s.readCursor_snd_eq (s.ridx + 1) s.ridx]
  · exact congrArg Prod.snd (State.readCursor_of_le s.ridx hc hle)

end Sys2Proof.Proofs
end

section
/-! PROOFS. The output packet of KIND CMD and CHECK_BUFFER (spec/42_command_packet.md R169 to R172): the answer of
each instruction under each of its checks, then what the answered state reads as. -/

namespace Sys2Proof.Machine

/-! ### A byte sequence written from offset 0 -/

theorem State.readBuf_setBufBytes_zero_of_lt {s : State} {vs : List Byte} {k : Nat} (hk : k < vs.length)
    (hcap : vs.length ≤ s.cfg.capacity) : (s.setBufBytes 0 vs).readBuf k = vs.getD k 0 :=
  (s.readBuf_setBufBytes 0 k vs).trans (if_pos (by omega))

theorem State.readBuf_setBufBytes_zero_of_le {s : State} {vs : List Byte} {k : Nat} (hk : vs.length ≤ k) :
    (s.setBufBytes 0 vs).readBuf k = s.readBuf k :=
  (s.readBuf_setBufBytes 0 k vs).trans (if_neg (by omega))

theorem State.getD_stagePrefix {s : State} {n k : Nat} (h : k < n) : (s.stagePrefix n).getD k 0 = s.readStage k := by
  simp [State.stagePrefix, h]

/-! ### RESET_OUTPUT, SET_TARGET and ADD_WORD (R170 to R172) -/

theorem exec_resetOutput {s : State} (hk : s.cfg.kind = .cmd) : exec .resetOutput s = finish (resetOutput s) :=
  congrArg finish (onlyFor_self _ hk)

/-- The header bytes RESET_OUTPUT writes are inside BUF for every configuration (R6, R170). -/
theorem readBuf_resetOutput_of_lt (s : State) {k : Nat} (hk : k < 8) :
    (resetOutput s).1.readBuf k = (commandHeader s.seq).getD k 0 :=
  State.readBuf_setBufBytes_zero_of_lt (s := s) hk s.cfg.eight_le_capacity

theorem readBuf_resetOutput_of_le (s : State) {k : Nat} (hk : 8 ≤ k) :
    (resetOutput s).1.readBuf k = s.readBuf k :=
  State.readBuf_setBufBytes_zero_of_le (s := s) (vs := commandHeader s.seq) hk

theorem exec_setTarget_of_closed {s : State} (id : Byte) (hk : s.cfg.kind = .cmd) (ht : s.txopen = false) :
    exec (.setTarget id) s = .next (s.record ⟨.noPacket, false, 0⟩) := by
  have hreply : setTarget id s = s.reply .noPacket := by simpa [ht] using setTarget_cases id s
  exact congrArg finish ((onlyFor_self _ hk).trans hreply)

theorem exec_setTarget_of_open {s : State} (id : Byte) (hk : s.cfg.kind = .cmd) (ht : s.txopen = true) :
    exec (.setTarget id) s = .next ({ s.setBuf 2 id with altered := true }.record ⟨.ok, false, 0⟩) := by
  have hreply : setTarget id s = { s.setBuf 2 id with altered := true }.reply .ok := by
    simpa [ht] using setTarget_cases id s
  exact congrArg finish ((onlyFor_self _ hk).trans hreply)

/-- The payload length of a command output packet (R6, R172). -/
theorem State.payloadLen_cmd {s : State} (hk : s.cfg.kind = .cmd) : s.payloadLen = s.len.toNat - 8 := by
  rw [State.payloadLen, Config.headerSize_cmd hk]

/-- The state ADD_WORD leads to where it appends (R172). -/
def State.wordAdded (s : State) (w : Word) : State :=
  { (s.appendWord w).setBuf 3 (BitVec.ofNat 8 (s.appendWord w).payloadLen) with altered := true }

theorem exec_addWord_of_closed {s : State} (w : Word) (hk : s.cfg.kind = .cmd) (ht : s.txopen = false) :
    exec (.addWord w) s = .next (s.record ⟨.noPacket, false, 0⟩) := by
  have hreply : addWord w s = s.reply .noPacket := by simpa [ht] using addWord_cases w s
  exact congrArg finish ((onlyFor_self _ hk).trans hreply)

theorem exec_addWord_of_le {s : State} (w : Word) (hk : s.cfg.kind = .cmd) (ht : s.txopen = true)
    (hle : s.cfg.cmdMaxPayload ≤ s.payloadLen + 2) :
    exec (.addWord w) s = .next (s.record ⟨.bufferFull, false, 0⟩) := by
  have hreply : addWord w s = s.reply .bufferFull := by
    simpa [ht, hle, Nat.not_lt_of_le hle] using addWord_cases w s
  exact congrArg finish ((onlyFor_self _ hk).trans hreply)

/-- Where the payload stays below M_c the word fits into BUF too, so ADD_WORD's first check holds (R172). -/
theorem exec_addWord_of_lt {s : State} (w : Word) (hk : s.cfg.kind = .cmd) (ht : s.txopen = true)
    (hlt : s.payloadLen + 2 < s.cfg.cmdMaxPayload) :
    exec (.addWord w) s = .next ((s.wordAdded w).record ⟨.ok, false, 0⟩) := by
  have hcap : s.len.toNat + 2 ≤ s.cfg.capacity := by
    rw [State.payloadLen_cmd hk] at hlt
    rw [Config.capacity_cmd hk]
    omega
  have hreply : addWord w s = (s.wordAdded w).reply .ok := by
    simpa [State.wordAdded, ht, hcap, hlt, Nat.not_lt_of_le hcap, Nat.not_le_of_lt hlt] using addWord_cases w s
  exact congrArg finish ((onlyFor_self _ hk).trans hreply)

/-- BUF after ADD_WORD: the length byte last, over the appended word. -/
theorem State.readBuf_wordAdded (s : State) (w : Word) (k : Nat) :
    (s.wordAdded w).readBuf k =
      if k = 3 then BitVec.ofNat 8 (s.appendWord w).payloadLen
      else if k = s.len.toNat + 1 ∧ s.len.toNat + 1 < s.cfg.capacity then hi16 w
      else if k = s.len.toNat ∧ s.len.toNat < s.cfg.capacity then lo16 w else s.readBuf k := by
  have h3 : 3 < s.cfg.capacity := lt_of_lt_of_le (by decide) s.cfg.eight_le_capacity
  have hset : (s.wordAdded w).readBuf k =
      ((s.appendWord w).setBuf 3 (BitVec.ofNat 8 (s.appendWord w).payloadLen)).readBuf k := rfl
  have happend : (s.appendWord w).readBuf k = (s.setBufWord s.len.toNat w).readBuf k := rfl
  rw [hset, State.readBuf_setBuf, happend, State.readBuf_setBufWord]
  simp only [State.appendWord_cfg, h3, and_true]

/-! ### CHECK_BUFFER (R169) -/

section
variable (ck : Checksum) (n : Nat) (s : State)

theorem checkBufferError_of_size (h : s.cfg.capacity < n ∨ n < 8) : checkBufferError ck n s = some .lengthError :=
  if_pos h

variable {n s} (hsize : 8 ≤ n ∧ n ≤ s.cfg.capacity)
include hsize

theorem checkBufferError_of_sync (h : s.readStage 0 ≠ 0x9A ∨ s.readStage 1 ≠ 0xC3) :
    checkBufferError ck n s = some .noSync := by
  rw [checkBufferError, if_neg (by omega), if_pos h]

variable (hsync : s.readStage 0 = 0x9A ∧ s.readStage 1 = 0xC3)
include hsync

theorem checkBufferError_of_length
    (h : s.cfg.cmdMaxPayload ≤ (s.readStage 3).toNat ∨ 8 + (s.readStage 3).toNat ≠ n) :
    checkBufferError ck n s = some .lengthError := by
  rw [checkBufferError, if_neg (by omega), if_neg (by simp [hsync])]
  split
  · rfl
  · exact if_pos (h.resolve_left ‹_›)

theorem checkBufferError_of_checksum (hmax : (s.readStage 3).toNat < s.cfg.cmdMaxPayload)
    (hlen : 8 + (s.readStage 3).toNat = n) (h : ckz ck (s.stagePrefix n) ≠ s.readStageWord 6) :
    checkBufferError ck n s = some .crcError := by
  rw [checkBufferError, if_neg (by omega), if_neg (by simp [hsync]), if_neg (Nat.not_le_of_lt hmax),
    if_neg (not_not_intro hlen), if_pos h]

end

/-- The state CHECK_BUFFER leads to where it takes the `n` staged bytes (R169). -/
def State.stageTaken (s : State) (n : Nat) : State :=
  { s.setBufBytes 0 (s.stagePrefix n) with
    len := BitVec.ofNat 17 n, completed := true, txopen := false, hold := false, ridx := 0,
    altered := false, ev := s.ev ||| 0b01 }

theorem exec_checkBuffer_of_error {s : State} {words : DWord} {st : Status} (hk : s.cfg.kind = .cmd)
    (h : checkBufferError Config.ck (2 * words.toNat) s = some st) :
    exec (.checkBuffer words) s = .next (s.record ⟨st, false, 0⟩) := by
  have hreply : checkBuffer Config.ck words s = s.reply st := by
    simpa [h] using checkBuffer_cases Config.ck words s
  exact congrArg finish ((onlyFor_self _ hk).trans hreply)

theorem exec_checkBuffer_of_none {s : State} {words : DWord} (hk : s.cfg.kind = .cmd)
    (h : checkBufferError Config.ck (2 * words.toNat) s = none) :
    exec (.checkBuffer words) s = .next ((s.stageTaken (2 * words.toNat)).record ⟨.ok, false, 0⟩) := by
  have hreply : checkBuffer Config.ck words s = (s.stageTaken (2 * words.toNat)).reply .ok := by
    simpa [State.stageTaken, h] using checkBuffer_cases Config.ck words s
  exact congrArg finish ((onlyFor_self _ hk).trans hreply)

theorem State.readBuf_stageTaken_of_lt {s : State} {n k : Nat} (hk : k < n) (hcap : n ≤ s.cfg.capacity) :
    (s.stageTaken n).readBuf k = s.readStage k := by
  have hbytes : (s.setBufBytes 0 (s.stagePrefix n)).readBuf k = (s.stagePrefix n).getD k 0 :=
    State.readBuf_setBufBytes_zero_of_lt (by simpa using hk) (by simpa using hcap)
  exact hbytes.trans (State.getD_stagePrefix hk)

theorem State.readBuf_stageTaken_of_le {s : State} {n k : Nat} (hk : n ≤ k) :
    (s.stageTaken n).readBuf k = s.readBuf k :=
  State.readBuf_setBufBytes_zero_of_le (s := s) (by simpa using hk)

end Sys2Proof.Machine

/-! ### The statements -/

namespace Sys2Proof.Proofs
open Sys2Proof Sys2Proof.Machine

/-- Settles O36: bytes 0 to 7 are those of the header for the old SEQ. -/
theorem resetOutputStartsAPacket : Obligations.ResetOutputStartsAPacket := by
  refine ⟨Laws.FieldsOfEncode.resetOutput, fun s hk => ⟨_, exec_resetOutput hk, ?_⟩⟩
  have hheader (k : Nat) (h : k < 8) : (resetOutput s).1.readBuf k = (commandHeader s.seq).getD k 0 :=
    readBuf_resetOutput_of_lt s h
  exact ⟨hheader 0 (by decide), hheader 1 (by decide), hheader 2 (by decide), hheader 3 (by decide),
    hheader 4 (by decide), hheader 5 (by decide), hheader 6 (by decide), hheader 7 (by decide),
    fun k h => readBuf_resetOutput_of_le s h, BitVec.toNat_add _ _, rfl⟩

/-- Settles O37: byte 2 is inside every BUF. -/
theorem setTargetWritesByteTwo : Obligations.SetTargetWritesByteTwo := by
  refine fun id => ⟨Laws.FieldsOfEncode.setTarget id,
    fun s hk => ⟨exec_setTarget_of_closed id hk, fun ht => ?_⟩⟩
  have h2 : 2 < s.cfg.capacity := lt_of_lt_of_le (by decide) s.cfg.eight_le_capacity
  refine ⟨_, exec_setTarget_of_open id hk ht, ?_, fun k h => ?_, rfl⟩
  · exact (s.readBuf_setBuf 2 2 id).trans (if_pos ⟨rfl, h2⟩)
  · exact (s.readBuf_setBuf 2 k id).trans (if_neg (mt And.left h))

/-- Settles O38: the bound on the payload keeps LEN inside CAP and the payload length inside byte 3, because
M_c is at most 256 (R6). -/
theorem addWordAppendsBelowTheBound : Obligations.AddWordAppendsBelowTheBound := by
  refine fun w => ⟨Laws.FieldsOfEncode.addWord w, fun s hk hv => ?_⟩
  have hpay := State.payloadLen_cmd hk
  refine ⟨exec_addWord_of_closed w hk, fun ht _ hle => exec_addWord_of_le w hk ht (hpay ▸ hle),
    fun ht h8 hlt => ?_⟩
  obtain ⟨-, hmax, -⟩ := (Config.valid_iff s.cfg).1 hv
  have hcap := Config.capacity_cmd hk
  have hlen : (s.len + 2).toNat = s.len.toNat + 2 :=
    BitVec.toNat_add_of_lt (y := 2) (show s.len.toNat + 2 < 131072 by omega)
  have hdecl : (s.appendWord w).payloadLen = s.len.toNat + 2 - 8 :=
    (State.payloadLen_cmd (s := s.appendWord w) hk).trans (congrArg (· - 8) hlen)
  refine ⟨_, exec_addWord_of_lt w hk ht (hpay ▸ hlt), ?_, ?_, hlen, ?_, ?_, fun k hlo hhi h3 => ?_, rfl⟩
  · rw [State.readBuf_record, State.readBuf_wordAdded, if_neg (by omega), if_neg (by omega),
      if_pos ⟨rfl, by omega⟩]
    rfl
  · rw [State.readBuf_record, State.readBuf_wordAdded, if_neg (by omega), if_pos ⟨rfl, by omega⟩]
    rfl
  · rw [State.readBuf_record, State.readBuf_wordAdded, if_pos rfl, hdecl, BitVec.toNat_ofNat]
    exact (Nat.mod_eq_of_lt (by omega)).trans (congrArg (· - 8) hlen.symm)
  · exact (congrArg (· + 1) hlen).trans_le (by omega)
  · rw [State.readBuf_record, State.readBuf_wordAdded, if_neg h3, if_neg (mt And.left hhi),
      if_neg (mt And.left hlo)]

/-- Settles O41: each refusal by the first check that fails, with the checks before it passed. -/
theorem checkBufferAcceptsAValidPacket : Obligations.CheckBufferAcceptsAValidPacket := by
  refine fun words => ⟨Laws.FieldsOfEncode.checkBuffer words, fun s hk hv => ?_⟩
  intro n p answers
  have refused {st : Status} (h : checkBufferError Config.ck n s = some st) : answers st :=
    exec_checkBuffer_of_error hk h
  refine ⟨fun h => refused (checkBufferError_of_size _ _ _ h), fun h8 hcap => ?_⟩
  refine ⟨fun h => refused (checkBufferError_of_sync _ ⟨h8, hcap⟩ h), fun h0 h1 => ?_⟩
  refine ⟨fun h => refused (checkBufferError_of_length _ ⟨h8, hcap⟩ ⟨h0, h1⟩ h), fun hmax hlen => ?_⟩
  refine ⟨fun h => refused (checkBufferError_of_checksum _ ⟨h8, hcap⟩ ⟨h0, h1⟩ hmax hlen h), fun hck => ?_⟩
  have hnone : checkBufferError Config.ck n s = none :=
    (checkBufferError_eq_none_iff _ _ _).2 ⟨h8, hcap, h0, h1, hmax, hlen, hck⟩
  have hlt : n < 2 ^ 17 := (hcap.trans (Config.capacity_lt hv)).trans_lt (by decide)
  refine ⟨_, exec_checkBuffer_of_none hk hnone, fun k h => State.readBuf_stageTaken_of_lt h hcap,
    fun k h => State.readBuf_stageTaken_of_le h, (BitVec.toNat_ofNat n 17).trans (Nat.mod_eq_of_lt hlt), ?_, ?_, rfl⟩
  · exact BitVec.getLsbD_or.trans (Bool.or_true _)
  · exact BitVec.getLsbD_or.trans (Bool.or_false _)

end Sys2Proof.Proofs
end

section
/-! PROOFS. FEED while it accepts bytes (spec/42_command_packet.md R160 to R168): what follows a byte taken, a byte
refused and a byte stored in the body, for both kinds; then which of them a step of the command machine is. -/

namespace Sys2Proof.Machine

/-! ### The answer of FEED (R160, R167, R168) -/

/-- BUF is not touched by what follows a step. -/
theorem State.readBuf_afterStep (s : State) (st : Status) (k : Nat) : (s.afterStep st).readBuf k = s.readBuf k := by
  unfold State.afterStep
  apply State.readBuf_congr <;> split <;> split <;> rfl

theorem exec_feed_of_step {s : State} {b : Byte} {r : FsmStep} (hidle : s.feedHeld = false)
    (hstep : fsmStep Config.ck b s = r) :
    exec (.feed b) s = .next ((r.state.afterStep r.status).record ⟨r.status, r.acc, 0⟩) := by
  subst hstep
  exact congrArg finish (feed_step Config.ck b hidle)

/-- What follows a framing error with LEN cleared (R167), where FEED was not held: HOLD is then AUTO's negation. -/
theorem State.afterStep_framing_of_not_held {s : State} (hidle : s.feedHeld = false) {st : Status}
    (hst : st.isFraming = true) :
    ({ s with len := 0 }).afterStep st =
      { s with len := 0, lastfeed := st, errcnt := s.errcnt + 1, ev := s.ev ||| 2, hold := !s.ctrl.getLsbD 0 } := by
  obtain ⟨-, -, hhold⟩ := s.feedHeld_eq_false_iff.1 hidle
  rw [State.afterStep_framing _ hst, State.framingError]
  simp only [hhold, Bool.false_or, State.auto, BitVec.ofNat_eq_ofNat]

/-! ### A byte taken or refused at a header position -/

/-- A byte taken: it is stored at its position, and LEN is the next one. -/
theorem exec_feed_of_takeByte {s : State} {b : Byte} {k : Nat} (hidle : s.feedHeld = false) (hk : k < s.cfg.capacity)
    (hstep : fsmStep Config.ck b s = takeByte s k b) :
    ∃ t, exec (.feed b) s = .next t ∧ t.readBuf k = b ∧ (∀ j, j ≠ k → t.readBuf j = s.readBuf j) ∧
      t = { s with buf := t.buf, len := BitVec.ofNat 17 (k + 1), lastfeed := .incomplete,
                   responses := s.responses ++ [⟨.incomplete, true, 0⟩] } := by
  have hread (j : Nat) : ((takeByte s k b).state.afterStep .incomplete).readBuf j = (s.setBuf k b).readBuf j :=
    State.readBuf_afterStep _ _ j
  refine ⟨_, exec_feed_of_step hidle hstep, ?_, fun j hj => ?_, rfl⟩
  · exact (hread k).trans ((s.readBuf_setBuf k k b).trans (if_pos ⟨rfl, hk⟩))
  · exact (hread j).trans ((s.readBuf_setBuf k j b).trans (if_neg (mt And.left hj)))

/-- A byte refused: the effects of a framing error, and no byte of BUF changes. -/
theorem exec_feed_of_refuseByte {s : State} {b : Byte} {st : Status} (hidle : s.feedHeld = false)
    (hst : st.isFraming = true) (hstep : fsmStep Config.ck b s = refuseByte s st) :
    exec (.feed b) s =
      .next { s with len := 0, lastfeed := st, errcnt := s.errcnt + 1, ev := s.ev ||| 2,
                     hold := !s.ctrl.getLsbD 0, responses := s.responses ++ [⟨st, false, 0⟩] } := by
  rw [exec_feed_of_step hidle hstep, refuseByte, State.afterStep_framing_of_not_held hidle hst]
  rfl

/-! ### The two sync bytes, in both kinds (R161, R162, R200) -/

theorem fsmStep_of_len_eq_zero (ck : Checksum) (b : Byte) {s : State} (h : s.len = 0) :
    fsmStep ck b s = huntStep b s := by
  cases hk : s.cfg.kind <;> simp [fsmStep, cmdStep, tlmStep, hk, h]

theorem fsmStep_of_len_eq_one (ck : Checksum) (b : Byte) {s : State} (h : s.len = 1) :
    fsmStep ck b s = syncStep b s := by
  cases hk : s.cfg.kind <;> simp [fsmStep, cmdStep, tlmStep, hk, h]

/-! ### The command machine after the sync (R163 to R165) -/

theorem fsmStep_cmd (ck : Checksum) (b : Byte) {s : State} (hk : s.cfg.kind = .cmd) :
    fsmStep ck b s = cmdStep ck b s := by
  simp [fsmStep, hk]

theorem cmdStep_of_len_eq_two (ck : Checksum) (b : Byte) {s : State} (h : s.len = 2) :
    cmdStep ck b s = takeByte s 2 b := by
  simp [cmdStep, h]

theorem cmdStep_of_len_eq_three (ck : Checksum) (b : Byte) {s : State} (h : s.len = 3) :
    cmdStep ck b s = if s.cfg.cmdMaxPayload ≤ b.toNat then refuseByte s .lengthError else takeByte s 3 b := by
  simp [cmdStep, h]

/-- EXPECT once a command packet's length byte is in BUF (R38). -/
theorem State.expect_cmd {s : State} (hk : s.cfg.kind = .cmd) (ht : s.txopen = false) (h4 : 4 ≤ s.len.toNat) :
    s.expect = 8 + (s.readBuf 3).toNat := by
  simp [State.expect, hk, ht, h4]

/-- From LEN = 4 on the byte belongs to the body, whose extent the length byte gives: the new byte is not it. -/
theorem cmdStep_of_four_le (ck : Checksum) (b : Byte) {s : State} (h : 4 ≤ s.len.toNat) :
    cmdStep ck b s = bodyStep ck (8 + (s.readBuf 3).toNat) (s.append b) := by
  have h3 : (s.append b).readBuf 3 = s.readBuf 3 := (s.readBuf_append b 3).trans (if_neg (by omega))
  unfold cmdStep
  split
  case h_5 => exact congrArg (fun p : Byte => bodyStep ck (8 + p.toNat) (s.append b)) h3
  all_goals omega

/-! ### A byte of the body (R165, R205) -/

/-- The packet image after a byte is appended. -/
theorem State.bufPrefix_append {s : State} (b : Byte) (hcap : s.len.toNat < s.cfg.capacity) :
    (s.append b).bufPrefix (s.len.toNat + 1) = s.bufPrefix s.len.toNat ++ [b] := by
  have hlast : (s.append b).readBuf s.len.toNat = b := (s.readBuf_append b _).trans (if_pos ⟨rfl, hcap⟩)
  have hinit : (s.append b).bufPrefix s.len.toNat = s.bufPrefix s.len.toNat :=
    State.bufPrefix_congr fun k hk => (s.readBuf_append b k).trans (if_neg (by omega))
  calc (s.append b).bufPrefix (s.len.toNat + 1)
      = (s.append b).bufPrefix s.len.toNat ++ [(s.append b).readBuf s.len.toNat] := by
        simp [State.bufPrefix, List.range_succ]
    _ = s.bufPrefix s.len.toNat ++ [b] := by rw [hinit, hlast]

theorem State.getD_bufPrefix {s : State} {n k : Nat} (h : k < n) : (s.bufPrefix n).getD k 0 = s.readBuf k := by
  simp [State.bufPrefix, h]

/-- The stored checksum is a part of the packet image (R124). -/
theorem State.storedChecksum_eq_getD (s : State) {n : Nat} (h : 8 ≤ n) :
    s.storedChecksum = le16 ((s.bufPrefix n).getD 6 0) ((s.bufPrefix n).getD 7 0) := by
  rw [State.getD_bufPrefix (by omega), State.getD_bufPrefix (by omega)]
  rfl

theorem State.toNat_append_len {s : State} (b : Byte) (h : s.len.toNat + 1 < 2 ^ 17) :
    (s.append b).len.toNat = s.len.toNat + 1 :=
  BitVec.toNat_add_of_lt (y := 1) h

/-- The checksum decides over the image with the last byte in it (R165). -/
theorem State.imageChecksum_append_eq_iff (ck : Checksum) {s : State} (b : Byte) (hcap : s.len.toNat < s.cfg.capacity)
    (hlen : (s.append b).len.toNat = s.len.toNat + 1) (h8 : 8 ≤ s.len.toNat + 1) :
    let x := s.bufPrefix s.len.toNat ++ [b]
    (s.append b).imageChecksum ck = (s.append b).storedChecksum ↔ ckz ck x = le16 (x.getD 6 0) (x.getD 7 0) := by
  intro x
  rw [State.storedChecksum_eq_getD _ h8, State.imageChecksum, hlen, State.bufPrefix_append b hcap]

theorem bodyStep_of_ne (ck : Checksum) {extent : Nat} {s : State} (h : s.len.toNat ≠ extent) :
    bodyStep ck extent s = ⟨s, .incomplete, true⟩ :=
  if_neg h

theorem bodyStep_of_valid {ck : Checksum} {extent : Nat} {s : State} (h : s.len.toNat = extent)
    (hck : s.imageChecksum ck = s.storedChecksum) : bodyStep ck extent s = ⟨s, .ok, true⟩ :=
  (if_pos h).trans (if_pos hck)

theorem bodyStep_of_invalid {ck : Checksum} {extent : Nat} {s : State} (h : s.len.toNat = extent)
    (hck : s.imageChecksum ck ≠ s.storedChecksum) :
    bodyStep ck extent s = ⟨{ s with len := 0 }, .crcError, true⟩ :=
  (if_pos h).trans (if_neg hck)

/-- The decision at the extent touches no byte of BUF. -/
theorem readBuf_bodyStep (ck : Checksum) (extent : Nat) (s : State) (k : Nat) :
    (bodyStep ck extent s).state.readBuf k = s.readBuf k := by
  unfold bodyStep
  split
  · split <;> rfl
  · rfl

/-- What FEED answers from the body of a packet, over the state with the byte appended: the byte is at LEN in BUF
whatever is decided then, and every other byte is as before. -/
theorem exec_feed_of_bodyStep {s : State} {b : Byte} {extent : Nat} (hidle : s.feedHeld = false)
    (hcap : s.len.toNat < s.cfg.capacity) (hstep : fsmStep Config.ck b s = bodyStep Config.ck extent (s.append b)) :
    ∃ t, exec (.feed b) s = .next t ∧ t.readBuf s.len.toNat = b ∧
      (∀ k, k ≠ s.len.toNat → t.readBuf k = s.readBuf k) ∧
      ((s.append b).len.toNat ≠ extent →
        t = ((s.append b).afterStep .incomplete).record ⟨.incomplete, true, 0⟩) ∧
      ((s.append b).len.toNat = extent → (s.append b).imageChecksum Config.ck = (s.append b).storedChecksum →
        t = ((s.append b).afterStep .ok).record ⟨.ok, true, 0⟩) ∧
      ((s.append b).len.toNat = extent → (s.append b).imageChecksum Config.ck ≠ (s.append b).storedChecksum →
        t = ({ s.append b with len := 0 }.afterStep .crcError).record ⟨.crcError, true, 0⟩) := by
  have hread (k : Nat) : ((bodyStep Config.ck extent (s.append b)).state.afterStep
      (bodyStep Config.ck extent (s.append b)).status).readBuf k = (s.append b).readBuf k :=
    (State.readBuf_afterStep _ _ k).trans (readBuf_bodyStep _ _ _ k)
  refine ⟨_, exec_feed_of_step hidle hstep, ?_, fun k hne => ?_, fun hlen => ?_, fun hlen hck => ?_,
    fun hlen hck => ?_⟩
  · exact (hread _).trans ((s.readBuf_append b _).trans (if_pos ⟨rfl, hcap⟩))
  · exact (hread k).trans ((s.readBuf_append b k).trans (if_neg (mt And.left hne)))
  · rw [bodyStep_of_ne _ hlen]
  · rw [bodyStep_of_valid hlen hck]
  · rw [bodyStep_of_invalid hlen hck]

/-- What follows a completion of KIND CMD: TAG is kept (R37, R168). -/
theorem State.afterStep_ok_cmd {s : State} (hk : s.cfg.kind = .cmd) :
    s.afterStep .ok = { s with lastfeed := .ok, completed := true, ridx := 0, ev := s.ev ||| 1 } := by
  rw [State.afterStep_ok, State.completion]
  simp only [hk, BitVec.ofNat_eq_ofNat]

end Sys2Proof.Machine

/-! ### The statements -/

namespace Sys2Proof.Proofs
open Sys2Proof Sys2Proof.Machine

/-- Settles O46: 0x9A is a byte taken at position 0; another byte leaves the state but for LASTFEED. -/
theorem feedHuntsForTheFirstSyncByte : Obligations.FeedHuntsForTheFirstSyncByte := by
  intro b s ht hc hh hl
  have hidle : s.feedHeld = false := s.feedHeld_eq_false_iff.2 ⟨ht, hc, hh⟩
  have hstep : fsmStep Config.ck b s = huntStep b s := fsmStep_of_len_eq_zero _ b hl
  refine ⟨?_, fun hb => ?_⟩
  · rintro rfl
    exact exec_feed_of_takeByte hidle (lt_of_lt_of_le (by decide) s.cfg.eight_le_capacity) (hstep.trans (if_pos rfl))
  · rw [exec_feed_of_step hidle (hstep.trans (if_neg hb)), State.afterStep_incomplete]
    rfl

/-- Settles O47: 0xC3 is a byte taken at position 1, any other a byte refused. -/
theorem feedChecksTheSecondSyncByte : Obligations.FeedChecksTheSecondSyncByte := by
  intro b s ht hc hh hl
  have hidle : s.feedHeld = false := s.feedHeld_eq_false_iff.2 ⟨ht, hc, hh⟩
  have hstep : fsmStep Config.ck b s = syncStep b s := fsmStep_of_len_eq_one _ b hl
  refine ⟨?_, fun hb => exec_feed_of_refuseByte hidle rfl (hstep.trans (if_neg hb))⟩
  rintro rfl
  exact exec_feed_of_takeByte hidle (lt_of_lt_of_le (by decide) s.cfg.eight_le_capacity) (hstep.trans (if_pos rfl))

/-- Settles O48: the target id and a length below M_c are bytes taken, a larger length is a byte refused. -/
theorem feedTakesTheCommandHeader : Obligations.FeedTakesTheCommandHeader := by
  intro b s hk ht hc hh
  have hidle : s.feedHeld = false := s.feedHeld_eq_false_iff.2 ⟨ht, hc, hh⟩
  have hroom : ∀ k < 8, k < s.cfg.capacity := fun k h => h.trans_le s.cfg.eight_le_capacity
  have hstep : fsmStep Config.ck b s = cmdStep Config.ck b s := fsmStep_cmd _ b hk
  refine ⟨fun hl => ?_, fun hl hlt => ?_, fun hl hle => ?_⟩
  · exact exec_feed_of_takeByte hidle (hroom 2 (by decide)) (hstep.trans (cmdStep_of_len_eq_two _ b hl))
  · obtain ⟨t, hexec, hbyte, hothers, hframe⟩ := exec_feed_of_takeByte hidle (hroom 3 (by decide))
      ((hstep.trans (cmdStep_of_len_eq_three _ b hl)).trans (if_neg (Nat.not_le_of_lt hlt)))
    have hexpect : t.expect = 8 + (t.readBuf 3).toNat :=
      State.expect_cmd (by rw [hframe]; exact hk) (by rw [hframe]; exact ht) (by rw [hframe]; exact Nat.le_refl 4)
    exact ⟨t, hexec, hbyte, hothers, hbyte ▸ hexpect, hframe⟩
  · exact exec_feed_of_refuseByte hidle rfl
      ((hstep.trans (cmdStep_of_len_eq_three _ b hl)).trans (if_pos hle))

/-- Settles O49: a byte of the body is stored at LEN; at the extent the checksum of the image decides, before it
nothing does. -/
theorem feedCompletesACommandPacket : Obligations.FeedCompletesACommandPacket := by
  intro b s hk ht hc hh h4 hextent hmax x
  have hidle : s.feedHeld = false := s.feedHeld_eq_false_iff.2 ⟨ht, hc, hh⟩
  have hcap : s.len.toNat < s.cfg.capacity := by rw [Config.capacity_cmd hk]; omega
  have hlen : (s.append b).len.toNat = s.len.toNat + 1 := State.toNat_append_len b (by omega)
  have hstep : fsmStep Config.ck b s = bodyStep Config.ck (8 + (s.readBuf 3).toNat) (s.append b) :=
    (fsmStep_cmd _ b hk).trans (cmdStep_of_four_le _ b h4)
  obtain ⟨t, hexec, hbyte, hothers, hmore, hok, hcrc⟩ := exec_feed_of_bodyStep hidle hcap hstep
  refine ⟨t, hexec, hbyte, hothers, fun hlt => ?_, fun hlast => ?_⟩
  · rw [hmore (by omega), State.afterStep_incomplete]
    rfl
  · have hend : (s.append b).len.toNat = 8 + (s.readBuf 3).toNat := hlen.trans hlast
    have hck := State.imageChecksum_append_eq_iff Config.ck b hcap hlen (by omega)
    by_cases hvalid : ckz Config.ck x = le16 (x.getD 6 0) (x.getD 7 0)
    · rw [if_pos hvalid, hok hend (hck.2 hvalid), State.afterStep_ok_cmd (s := s.append b) hk]
      rfl
    · rw [if_neg hvalid, hcrc hend (mt hck.1 hvalid), State.afterStep_framing_of_not_held (s := s.append b) hidle rfl]
      rfl

end Sys2Proof.Proofs
end

section
/-! PROOFS. The output packet of KIND TLM and VERIFY_BUFFER (spec/43_telemetry_packet.md R206, R208 to R210): the
answer of each instruction under each of its checks, then what the answered state reads as. -/

namespace Sys2Proof

theorem Config.sixteen_le_capacity {c : Config} (h : c.kind = .tlm) : 16 ≤ c.capacity := by
  rw [Config.capacity_tlm h]
  omega

/-- R206: a fixed type accepts its one length, a variable one every length up to its maximum. -/
theorem SchemaEntry.lenOK_iff (e : SchemaEntry) (l : Nat) :
    e.lenOK l = true ↔ (e.isVar = false ∧ l = e.len) ∨ (e.isVar = true ∧ l ≤ e.len) := by
  unfold SchemaEntry.lenOK
  cases e.isVar <;> simp

theorem SchemaEntry.lenOK_eq_false_iff (e : SchemaEntry) (l : Nat) :
    e.lenOK l = false ↔ (e.isVar = false ∧ l ≠ e.len) ∨ (e.isVar = true ∧ e.len < l) := by
  unfold SchemaEntry.lenOK
  cases e.isVar <;> simp

namespace Machine

/-! ### CREATE (R209) -/

/-- The state CREATE leads to where the type is registered (R209). -/
def State.created (s : State) (ty : Byte) : State :=
  (s.setBufBytes 0 (telemetryHeader ty s.cfg.sourceId)).openOutput 16

theorem exec_create_of_none {s : State} {ty : Byte} (hk : s.cfg.kind = .tlm) (h : s.cfg.schemaAt ty = none) :
    exec (.create ty) s = .next (s.record ⟨.unknownType, false, 0⟩) := by
  have hreply : create ty s = s.reply .unknownType := by simpa [h] using create_cases ty s
  exact congrArg finish ((onlyFor_self _ hk).trans hreply)

theorem exec_create_of_some {s : State} {ty : Byte} {e : SchemaEntry} (hk : s.cfg.kind = .tlm)
    (h : s.cfg.schemaAt ty = some e) : exec (.create ty) s = .next ((s.created ty).record ⟨.ok, false, 0⟩) := by
  have hreply : create ty s = (s.created ty).reply .ok := by simpa [State.created, h] using create_cases ty s
  exact congrArg finish ((onlyFor_self _ hk).trans hreply)

/-- The header bytes CREATE writes are inside BUF for every telemetry configuration (R6, R209). -/
theorem State.readBuf_created_of_lt {s : State} (ty : Byte) (hk : s.cfg.kind = .tlm) {k : Nat} (h : k < 16) :
    (s.created ty).readBuf k = (telemetryHeader ty s.cfg.sourceId).getD k 0 :=
  State.readBuf_setBufBytes_zero_of_lt (s := s) h (Config.sixteen_le_capacity hk)

theorem State.readBuf_created_of_le (s : State) (ty : Byte) {k : Nat} (h : 16 ≤ k) :
    (s.created ty).readBuf k = s.readBuf k :=
  State.readBuf_setBufBytes_zero_of_le (s := s) (vs := telemetryHeader ty s.cfg.sourceId) h

/-- The header is zero from the length field on (R209). -/
theorem telemetryHeader_getD_of_le (ty src : Byte) {k : Nat} (h : 4 ≤ k) : (telemetryHeader ty src).getD k 0 = 0 :=
  (List.getD_append_right [0x9A, 0xC3, ty, src] (List.replicate 12 0x00) 0 k h).trans
    (List.getElem?_getD_replicate_default_eq _ _ _)

/-! ### The appends (R210, R211) -/

/-- The payload length of a telemetry output packet (R6, R210). -/
theorem State.payloadLen_tlm {s : State} (hk : s.cfg.kind = .tlm) : s.payloadLen = s.len.toNat - 16 := by
  rw [State.payloadLen, Config.headerSize_tlm hk]

/-- The state an append leads to: the length field follows LEN (R210, R211). -/
def State.lengthFollowed (appended : State) : State :=
  { appended.setBufWord 4 (BitVec.ofNat 16 appended.payloadLen) with altered := true }

section
variable {s : State} (k : Nat) (appended : State)

theorem appendChecked_of_closed (ht : s.txopen = false) : appendChecked k s appended = s.reply .noPacket := by
  simpa [ht] using appendChecked_cases k s appended

variable (ht : s.txopen = true)
include ht

theorem appendChecked_of_none (h : s.schemaEntry = none) : appendChecked k s appended = s.reply .unknownType := by
  simpa [ht, h] using appendChecked_cases k s appended

variable {k} {e : SchemaEntry} (he : s.schemaEntry = some e)
include he

theorem appendChecked_of_lt (h : e.len < s.payloadLen + k) : appendChecked k s appended = s.reply .bufferFull := by
  simpa [ht, he, h, Nat.not_le_of_lt h] using appendChecked_cases k s appended

/-- Where the payload stays within the type's length the bytes fit into BUF too, because the schema lengths of a
valid configuration are at most M_t (R6). -/
theorem appendChecked_of_le (hk : s.cfg.kind = .tlm) (hv : s.cfg.valid = true) (h : s.payloadLen + k ≤ e.len) :
    appendChecked k s appended = appended.lengthFollowed.reply .ok := by
  have hcap : s.len.toNat + k ≤ s.cfg.capacity := by
    have hmax := Config.schemaAt_len_le hv he
    rw [State.payloadLen_tlm hk] at h
    rw [Config.capacity_tlm hk]
    omega
  simpa [State.lengthFollowed, ht, he, hcap, h, Nat.not_lt_of_le hcap, Nat.not_lt_of_le h] using
    appendChecked_cases k s appended

end

/-- BUF after an append: the length field last, over the appended bytes. -/
theorem State.readBuf_lengthFollowed (s : State) (k : Nat) :
    s.lengthFollowed.readBuf k =
      if k = 5 then hi16 (BitVec.ofNat 16 s.payloadLen)
      else if k = 4 then lo16 (BitVec.ofNat 16 s.payloadLen) else s.readBuf k := by
  have h8 := s.cfg.eight_le_capacity
  have hset : s.lengthFollowed.readBuf k = (s.setBufWord 4 (BitVec.ofNat 16 s.payloadLen)).readBuf k := rfl
  rw [hset, State.readBuf_setBufWord]
  simp [show 4 < s.cfg.capacity by omega, show 5 < s.cfg.capacity by omega]

/-- The length field of a telemetry packet after an append (R210, R211). -/
theorem State.readBufWord_lengthFollowed (s : State) :
    s.lengthFollowed.readBufWord 4 = BitVec.ofNat 16 s.payloadLen := by
  simp [State.readBufWord, State.readBuf_lengthFollowed]

theorem exec_appendByte {s : State} (v : Byte) (hk : s.cfg.kind = .tlm) :
    exec (.appendByte v) s = finish (appendChecked 1 s (s.append v)) :=
  congrArg finish (onlyFor_self _ hk)

/-! ### VERIFY_BUFFER (R208) -/

section
variable (ck : Checksum) (n : Nat) (s : State)

theorem verifyBufferStatus_of_size (h : s.cfg.capacity < n ∨ n < 16) : verifyBufferStatus ck n s = .lengthError :=
  if_pos h

variable {n s} (hsize : 16 ≤ n ∧ n ≤ s.cfg.capacity)
include hsize

theorem verifyBufferStatus_of_sync (h : s.readStage 0 ≠ 0x9A ∨ s.readStage 1 ≠ 0xC3) :
    verifyBufferStatus ck n s = .noSync := by
  rw [verifyBufferStatus, if_neg (by omega), if_pos h]

variable (hsync : s.readStage 0 = 0x9A ∧ s.readStage 1 = 0xC3)
include hsync

theorem verifyBufferStatus_of_none (h : s.cfg.schemaAt (s.readStage 2) = none) :
    verifyBufferStatus ck n s = .unknownType := by
  rw [verifyBufferStatus, if_neg (by omega), if_neg (by simp [hsync]), h]

variable {e : SchemaEntry} (he : s.cfg.schemaAt (s.readStage 2) = some e)
include he

theorem verifyBufferStatus_of_length
    (h : e.lenOK (s.readStageWord 4).toNat = false ∨ 16 + (s.readStageWord 4).toNat ≠ n) :
    verifyBufferStatus ck n s = .lengthError := by
  rw [verifyBufferStatus, if_neg (by omega), if_neg (by simp [hsync]), he]
  dsimp only
  split
  case isTrue => rfl
  case isFalse hok => exact if_pos (h.resolve_left (by simpa using hok))

theorem verifyBufferStatus_of_lenOK (hok : e.lenOK (s.readStageWord 4).toNat = true)
    (hlen : 16 + (s.readStageWord 4).toNat = n) :
    verifyBufferStatus ck n s = if ckz ck (s.stagePrefix n) = s.readStageWord 6 then .ok else .crcError := by
  rw [verifyBufferStatus, if_neg (by omega), if_neg (by simp [hsync]), he]
  dsimp only
  rw [if_neg (by simp [hok]), if_neg (not_not_intro hlen), ite_not]

end

theorem exec_verifyBuffer {s : State} (bytes : DWord) (hk : s.cfg.kind = .tlm) :
    exec (.verifyBuffer bytes) s =
      .next (s.record ⟨verifyBufferStatus Config.ck bytes.toNat s, false, 0⟩) :=
  congrArg finish (onlyFor_self _ hk)

end Machine
end Sys2Proof

/-! ### The statements -/

namespace Sys2Proof.Proofs
open Sys2Proof Sys2Proof.Machine

/-- Settles O42: bytes 0 to 15 are those of the header, which is zero from byte 4 on. -/
theorem createStartsAPacket : Obligations.CreateStartsAPacket := by
  refine fun ty => ⟨Laws.FieldsOfEncode.create ty, fun s hk => ⟨exec_create_of_none hk, fun e he => ?_⟩⟩
  have hheader (k : Nat) (h : k < 16) : (s.created ty).readBuf k = (telemetryHeader ty s.cfg.sourceId).getD k 0 :=
    State.readBuf_created_of_lt ty hk h
  exact ⟨_, exec_create_of_some hk he, hheader 0 (by decide), hheader 1 (by decide), hheader 2 (by decide),
    hheader 3 (by decide), fun k h4 h16 => (hheader k h16).trans (telemetryHeader_getD_of_le _ _ h4),
    fun k h => s.readBuf_created_of_le ty h, rfl⟩

/-- Settles O43: the bound on the payload keeps LEN inside CAP and the payload length inside its two bytes,
because M_t is at most 65535 (R6). -/
theorem appendByteAppendsUpToTheLength : Obligations.AppendByteAppendsUpToTheLength := by
  refine fun v => ⟨Laws.FieldsOfEncode.appendByte v, fun s hk hv => ?_⟩
  have hpay := State.payloadLen_tlm hk
  rw [exec_appendByte v hk]
  refine ⟨fun ht => congrArg finish (appendChecked_of_closed _ _ ht),
    fun ht hnone => congrArg finish (appendChecked_of_none _ _ ht hnone), fun e ht h16 he =>
    ⟨fun hlt => congrArg finish (appendChecked_of_lt _ ht he (hpay ▸ hlt)), fun hle => ?_⟩⟩
  obtain ⟨-, -, hmax, -⟩ := (Config.valid_iff s.cfg).1 hv
  have hschema := Config.schemaAt_len_le hv he
  have hcap := Config.capacity_tlm hk
  have hlen : (s.append v).len.toNat = s.len.toNat + 1 := State.toNat_append_len v (by omega)
  have hdecl : (s.append v).payloadLen = s.len.toNat + 1 - 16 :=
    (State.payloadLen_tlm (s := s.append v) hk).trans (congrArg (· - 16) hlen)
  refine ⟨_, congrArg finish (appendChecked_of_le _ ht he hk hv (hpay ▸ hle)), ?_, hlen, ?_,
    fun k hne h4 h5 => ?_, rfl⟩
  · rw [State.reply_fst, State.readBuf_record, State.readBuf_lengthFollowed, if_neg (by omega), if_neg (by omega),
      State.readBuf_append, if_pos ⟨rfl, by omega⟩]
  · calc ((s.append v).lengthFollowed.readBufWord 4).toNat
        = (BitVec.ofNat 16 (s.append v).payloadLen).toNat := by rw [State.readBufWord_lengthFollowed]
      _ = (s.append v).payloadLen := by rw [BitVec.toNat_ofNat]; exact Nat.mod_eq_of_lt (by omega)
      _ = (s.append v).len.toNat - 16 := State.payloadLen_tlm (s := s.append v) hk
  · rw [State.reply_fst, State.readBuf_record, State.readBuf_lengthFollowed, if_neg h5, if_neg h4,
      State.readBuf_append, if_neg (mt And.left hne)]

/-- Settles O45: each verdict by the first check that fails, with the checks before it passed. -/
theorem verifyBufferAnswersAVerdict : Obligations.VerifyBufferAnswersAVerdict := by
  refine fun bytes => ⟨Laws.FieldsOfEncode.verifyBuffer bytes, fun s hk => ?_⟩
  intro n l answers
  have verdict {st : Status} (h : verifyBufferStatus Config.ck n s = st) : answers st :=
    h ▸ exec_verifyBuffer bytes hk
  refine ⟨fun h => verdict (verifyBufferStatus_of_size _ _ _ h), fun h16 hcap => ?_⟩
  refine ⟨fun h => verdict (verifyBufferStatus_of_sync _ ⟨h16, hcap⟩ h), fun h0 h1 => ?_⟩
  refine ⟨fun h => verdict (verifyBufferStatus_of_none _ ⟨h16, hcap⟩ ⟨h0, h1⟩ h), fun e he => ?_⟩
  refine ⟨fun h => ?_, fun hfixed hvar hlen => ?_⟩
  · have hbad : e.lenOK l = false ∨ 16 + l ≠ n := by
      rw [SchemaEntry.lenOK_eq_false_iff]
      exact or_assoc.2 h
    exact verdict (verifyBufferStatus_of_length _ ⟨h16, hcap⟩ ⟨h0, h1⟩ he hbad)
  · have hok : e.lenOK l = true := by
      rw [SchemaEntry.lenOK_iff]
      cases hflag : e.isVar
      · exact .inl ⟨rfl, hfixed hflag⟩
      · exact .inr ⟨rfl, hvar hflag⟩
    exact verdict (verifyBufferStatus_of_lenOK _ ⟨h16, hcap⟩ ⟨h0, h1⟩ he hok hlen)

end Sys2Proof.Proofs
end

section
/-! PROOFS. FEED on a telemetry instance after the sync (spec/43_telemetry_packet.md R201 to R207): which kind of
step the telemetry machine takes at each header position and in the body, and the TAG a completion loads. -/

namespace Sys2Proof.Machine

/-! ### The telemetry machine after the sync (R201 to R205) -/

theorem fsmStep_tlm (ck : Checksum) (b : Byte) {s : State} (hk : s.cfg.kind = .tlm) :
    fsmStep ck b s = tlmStep ck b s := by
  simp [fsmStep, hk]

theorem tlmStep_of_len_eq_two (ck : Checksum) (b : Byte) {s : State} (h : s.len = 2) :
    tlmStep ck b s = if (s.cfg.schemaAt b).isNone then refuseByte s .unknownType else takeByte s 2 b := by
  simp [tlmStep, h]

theorem tlmStep_of_len_eq_three (ck : Checksum) (b : Byte) {s : State} (h : s.len = 3) :
    tlmStep ck b s = takeByte s 3 b := by
  simp [tlmStep, h]

theorem tlmStep_of_len_eq_four (ck : Checksum) (b : Byte) {s : State} (h : s.len = 4) :
    tlmStep ck b s = takeByte s 4 b := by
  simp [tlmStep, h]

/-- At LEN = 5 the length rule of the type's entry decides (R204, R206). -/
theorem tlmStep_of_len_eq_five (ck : Checksum) (b : Byte) {s : State} {e : SchemaEntry} (h : s.len = 5)
    (he : s.cfg.schemaAt (s.readBuf 2) = some e) :
    tlmStep ck b s =
      if e.lenOK (le16 (s.readBuf 4) b).toNat then takeByte s 5 b else refuseByte s .lengthError := by
  simp [tlmStep, h, tlmLengthStep, State.schemaEntry, he]

/-- From LEN = 6 on the byte belongs to the body, whose extent the length field gives: the new byte is no part of
that field. -/
theorem tlmStep_of_six_le (ck : Checksum) (b : Byte) {s : State} (h : 6 ≤ s.len.toNat) :
    tlmStep ck b s = bodyStep ck (16 + (s.readBufWord 4).toNat) (s.append b) := by
  unfold tlmStep
  split
  case h_7 => rfl
  all_goals omega

/-- What follows a completion of KIND TLM: TAG is the tag of the type's entry (R37, R168, R207). -/
theorem State.afterStep_ok_tlm {s : State} {e : SchemaEntry} (hk : s.cfg.kind = .tlm) (he : s.schemaEntry = some e) :
    s.afterStep .ok = { s with lastfeed := .ok, completed := true, ridx := 0, ev := s.ev ||| 1, tag := e.tag } := by
  have htag : s.cfg.schemaAt (({ s with lastfeed := .ok } : State).readBuf 2) = some e := he
  rw [State.afterStep_ok, State.completion]
  simp only [hk, htag, Option.map_some, Option.getD_some, BitVec.ofNat_eq_ofNat]

end Sys2Proof.Machine

/-! ### The statements -/

namespace Sys2Proof.Proofs
open Sys2Proof Sys2Proof.Machine

/-- Settles O50: a registered type, any source id, any low length byte, and a length the type accepts are bytes
taken; another type or length is a byte refused. -/
theorem feedTakesTheTelemetryHeader : Obligations.FeedTakesTheTelemetryHeader := by
  intro b s hk ht hc hh takes refuses l
  have hidle : s.feedHeld = false := s.feedHeld_eq_false_iff.2 ⟨ht, hc, hh⟩
  have hstep : fsmStep Config.ck b s = tlmStep Config.ck b s := fsmStep_tlm _ b hk
  have taken (k : Nat) (hk16 : k < 16) (h : tlmStep Config.ck b s = takeByte s k b) : takes k := by
    obtain ⟨t, hexec, hbyte, hothers, hframe⟩ := exec_feed_of_takeByte hidle
      (hk16.trans_le (Config.sixteen_le_capacity hk)) (hstep.trans h)
    have hlen : t.len = BitVec.ofNat 17 (k + 1) := congrArg State.len hframe
    refine ⟨t, hexec, hbyte, hothers, ?_, hlen ▸ hframe⟩
    rw [hlen, BitVec.toNat_ofNat]
    exact Nat.mod_eq_of_lt (by omega)
  have refused {st : Status} (hst : st.isFraming = true) (h : tlmStep Config.ck b s = refuseByte s st) : refuses st :=
    exec_feed_of_refuseByte hidle hst (hstep.trans h)
  refine ⟨fun hl hnone => ?_, fun hl hsome => ?_, fun hl => ?_, fun hl => ?_,
    fun e hl he => ⟨fun hbad => ?_, fun hok => ?_⟩⟩
  · exact refused rfl ((tlmStep_of_len_eq_two _ b hl).trans (if_pos (by simp [hnone])))
  · exact taken 2 (by decide) ((tlmStep_of_len_eq_two _ b hl).trans (if_neg (by simpa using hsome)))
  · exact taken 3 (by decide) (tlmStep_of_len_eq_three _ b hl)
  · exact taken 4 (by decide) (tlmStep_of_len_eq_four _ b hl)
  · have hlenOK : e.lenOK l = false := (e.lenOK_eq_false_iff l).2 hbad
    exact refused rfl ((tlmStep_of_len_eq_five _ b hl he).trans (if_neg (ne_true_of_eq_false hlenOK)))
  · exact taken 5 (by decide) ((tlmStep_of_len_eq_five _ b hl he).trans (if_pos ((e.lenOK_iff l).2 hok)))

/-- Settles O51: as for a command packet, with the extent from the length field; the type byte is in BUF already,
so its entry gives TAG. -/
theorem feedCompletesATelemetryPacket : Obligations.FeedCompletesATelemetryPacket := by
  intro b s e hk hv ht hc hh l h6 hextent he hok x
  have hidle : s.feedHeld = false := s.feedHeld_eq_false_iff.2 ⟨ht, hc, hh⟩
  have hcap : s.len.toNat < s.cfg.capacity := by
    have hle := SchemaEntry.le_of_lenOK hok
    have hmax := Config.schemaAt_len_le hv he
    rw [Config.capacity_tlm hk]
    omega
  have hfits := Config.capacity_lt hv
  have hlen : (s.append b).len.toNat = s.len.toNat + 1 := State.toNat_append_len b (by omega)
  have hstep : fsmStep Config.ck b s = bodyStep Config.ck (16 + l) (s.append b) :=
    (fsmStep_tlm _ b hk).trans (tlmStep_of_six_le _ b h6)
  obtain ⟨t, hexec, hbyte, hothers, hmore, hdone, hcrc⟩ := exec_feed_of_bodyStep hidle hcap hstep
  refine ⟨t, hexec, hbyte, hothers, fun hlt => ?_, fun hlast => ?_⟩
  · rw [hmore (by omega), State.afterStep_incomplete]
    rfl
  · have hend : (s.append b).len.toNat = 16 + l := hlen.trans hlast
    have hck := State.imageChecksum_append_eq_iff Config.ck b hcap hlen (by omega)
    by_cases hvalid : ckz Config.ck x = le16 (x.getD 6 0) (x.getD 7 0)
    · have htype : (s.append b).readBuf 2 = s.readBuf 2 := (s.readBuf_append b 2).trans (if_neg (by omega))
      have hentry : (s.append b).schemaEntry = some e := (congrArg s.cfg.schemaAt htype).trans he
      rw [if_pos hvalid, hdone hend (hck.2 hvalid), State.afterStep_ok_tlm (s := s.append b) hk hentry]
      rfl
    · rw [if_neg hvalid, hcrc hend (mt hck.1 hvalid),
        State.afterStep_framing_of_not_held (s := s.append b) hidle rfl]
      rfl

end Sys2Proof.Proofs
end

section
/-! PROOFS. Block control: CLR_HOLD (spec/44_control.md R242) and RD_REG with the register map it reads
(R244; spec/10_state.md R43, R44): which word each number gives, and what that word's fields or its value are. -/

namespace Sys2Proof

/-- CAP fits the 17 bits of its register (R6). -/
theorem Config.capacity_lt_two_pow {c : Config} (h : c.valid = true) : c.capacity < 2 ^ 17 :=
  (Config.capacity_lt h).trans_lt (by decide)

theorem Config.maxPayload_le_capacity (c : Config) : c.maxPayload ≤ c.capacity := Nat.le_add_left _ _

namespace Machine

/-! ### CLR_HOLD and the phase it leads to (R242) -/

theorem exec_clrHold (s : State) : exec .clrHold s = .next (s.releaseHold.record ⟨.ok, false, 0⟩) := rfl

/-- The row HUNT of R42's table. -/
theorem State.phase_eq_hunt {s : State} (ht : s.txopen = false) (hc : s.completed = false) (hh : s.hold = false)
    (hl : s.len = 0) : s.phase = some .hunt := by
  simp [State.phase, ht, hc, hh, hl]

/-! ### What RD_REG answers (R244) -/

theorem exec_rdReg_of_some {s : State} {r : Word} {v : DWord} (h : s.register r.toNat = some v) :
    exec (.rdReg r) s = .next (s.record ⟨.ok, false, v⟩) := by
  have hexec : exec (.rdReg r) s = execRdReg r s := rfl
  rw [hexec, execRdReg, h]
  rfl

theorem exec_rdReg_of_none {s : State} {r : Word} (h : s.register r.toNat = none) :
    exec (.rdReg r) s = .next (s.record ⟨.badCommand, false, 0⟩) := by
  have hexec : exec (.rdReg r) s = execRdReg r s := rfl
  rw [hexec, execRdReg, h]
  rfl

/-- The map names the registers 0 to 12 and no other (R43). -/
theorem State.register_eq_none_iff (s : State) (r : Nat) : s.register r = none ↔ 12 < r := by
  match r with
  | 0 | 1 | 2 | 3 | 4 | 5 | 6 | 7 | 8 | 9 | 10 | 11 | 12 => simp [State.register]
  | n + 13 => simp [State.register]

/-! ### The STATUS word (R44) -/

/-- STATUS [3:0] is the code of LASTFEED. -/
theorem State.extractLsb'_code_statusWord (s : State) : s.statusWord.extractLsb' 0 4 = s.lastfeed.code :=
  BitVec.extractLsb'_append_eq_right

/-- Each of the bits 4 to 8 is one flag. -/
theorem State.getLsbD_statusWord (s : State) :
    s.statusWord.getLsbD 4 = s.completed ∧ s.statusWord.getLsbD 5 = s.isReset ∧ s.statusWord.getLsbD 6 = s.hold ∧
    s.statusWord.getLsbD 7 = s.txopen ∧ s.statusWord.getLsbD 8 = s.altered := by
  simp only [State.statusWord, BitVec.getLsbD_append]
  simp

/-- Bits 31:9 are the zeros above the flags. -/
theorem State.extractLsb'_high_statusWord (s : State) : s.statusWord.extractLsb' 9 23 = 0 := by
  unfold State.statusWord
  iterate 6 rw [BitVec.extractLsb'_append_eq_of_le (by decide)]
  rfl

/-! ### ISRESET, INFO and the registers of 17 bits (R27, R43) -/

theorem State.isReset_eq (s : State) : s.isReset = decide (s.len.toNat = 0) := by
  simp [State.isReset, ← BitVec.toNat_inj]

/-- INFO is one word for each KIND: H in [15:8], KIND in [0]. -/
theorem State.infoWord_eq (s : State) : s.infoWord = if s.cfg.kind = .cmd then 0x00000800 else 0x00001001 := by
  unfold State.infoWord
  cases hk : s.cfg.kind
  · rw [Config.headerSize_cmd hk]; rfl
  · rw [Config.headerSize_tlm hk]; rfl

theorem toNat_field17 {n : Nat} (h : n < 2 ^ 17) : (field17 n).toNat = n := by
  rw [field17, BitVec.toNat_setWidth_of_le (by decide), BitVec.toNat_ofNat, Nat.mod_eq_of_lt h]

/-- EXPECT fits the 17 bits of its register (R38). -/
theorem State.expect_lt (s : State) : s.expect < 2 ^ 17 := by
  have hbyte := (s.readBuf 3).isLt
  have hword := (s.readBufWord 4).isLt
  unfold State.expect
  split
  · decide
  · split <;> split <;> omega

theorem State.remain_le_expect (s : State) : s.remain ≤ s.expect := by
  unfold State.remain
  split <;> omega

end Machine
end Sys2Proof

/-! ### The statements -/

namespace Sys2Proof.Proofs
open Sys2Proof Sys2Proof.Machine

/-- Settles O19: under R46 a held state has LEN 0 and no packet, so with the hold released it hunts. -/
theorem clrHoldReleasesTheHold : Obligations.ClrHoldReleasesTheHold := by
  refine ⟨Laws.FieldsOfEncode.clrHold, fun s => ⟨_, exec_clrHold s, rfl, fun ck hinv hhold => ?_⟩⟩
  obtain ⟨hlen, hcompleted, htxopen⟩ := hinv.held hhold
  exact State.phase_eq_hunt htxopen hcompleted rfl hlen

/-- Settles O24: a number the map does not name is refused; of a named one DATA is the map's word, which is read
number by number. -/
theorem rdRegReadsTheRegisterMap : Obligations.RdRegReadsTheRegisterMap := by
  refine fun r => ⟨Laws.FieldsOfEncode.rdReg r, fun s hvalid => ⟨fun hr => ?_, fun hr => ?_⟩⟩
  · exact exec_rdReg_of_none ((s.register_eq_none_iff _).2 hr)
  obtain ⟨d, hd⟩ : ∃ d, s.register r.toNat = some d :=
    Option.ne_none_iff_exists'.1 (mt (s.register_eq_none_iff _).1 (Nat.not_lt_of_le hr))
  have reads {k : Nat} {v : DWord} (hk : r.toNat = k) (hv : s.register k = some v) : d = v :=
    Option.some.inj (hd.symm.trans (hk ▸ hv))
  have widens {w k : Nat} {v : BitVec w} (hw : w ≤ 32) (hk : r.toNat = k)
      (hv : s.register k = some (v.setWidth 32)) : d.toNat = v.toNat :=
    (congrArg BitVec.toNat (reads hk hv)).trans (BitVec.toNat_setWidth_of_le hw)
  have fits {k n : Nat} (hn : n < 2 ^ 17) (hk : r.toNat = k) (hv : s.register k = some (field17 n)) : d.toNat = n :=
    (congrArg BitVec.toNat (reads hk hv)).trans (toNat_field17 hn)
  have hcap : s.cfg.capacity < 2 ^ 17 := Config.capacity_lt_two_pow hvalid
  refine ⟨d, exec_rdReg_of_some hd, fun status => ?_, fun ctrl => ?_, fun len => ?_, fun ridx => ?_,
    fun expect => ?_, fun remain => ?_, fun errcnt => ?_, fun seq => ?_, fun ev => ?_, fun tag => ?_,
    fun info => ?_, fun cap => ?_, fun maxp => ?_⟩
  · obtain ⟨hcompleted, hreset, hhold, htxopen, haltered⟩ := s.getLsbD_statusWord
    rw [reads status rfl, ← s.isReset_eq]
    exact ⟨s.extractLsb'_code_statusWord, hcompleted, hreset, hhold, htxopen, haltered,
      s.extractLsb'_high_statusWord⟩
  · exact widens (by decide) ctrl rfl
  · exact widens (by decide) len rfl
  · exact widens (by decide) ridx rfl
  · exact fits s.expect_lt expect rfl
  · exact fits (s.remain_le_expect.trans_lt s.expect_lt) remain rfl
  · exact reads errcnt rfl
  · exact widens (by decide) seq rfl
  · exact widens (by decide) ev rfl
  · exact reads tag rfl
  · exact (reads info rfl).trans s.infoWord_eq
  · exact fits hcap cap rfl
  · exact fits (s.cfg.maxPayload_le_capacity.trans_lt hcap) maxp rfl

end Sys2Proof.Proofs
end

section
/-! PROOFS. The state after power-on reset (spec/10_state.md R47; spec/70_reset_and_hazards.md R290, R292): what a
buffer with no written byte reads as, and that IRQ is low while no event is pending. -/

namespace Sys2Proof.Machine

/-! ### Buffers with no written byte (R47) -/

theorem State.readBuf_of_unwritten {s : State} (h : s.buf = []) (k : Nat) :
    s.readBuf k = Config.bufDraw s.epoch k := by
  rw [State.readBuf, h, Memory.read_nil, Option.getD_none]

theorem State.readStage_of_unwritten {s : State} (h : s.stage = []) (k : Nat) :
    s.readStage k = Config.stageDraw s.epoch k := by
  rw [State.readStage, h, Memory.read_nil, Option.getD_none]

/-! ### The interrupt output (R266) -/

/-- Whatever CTRL enables, IRQ is low while both event bits are 0. -/
theorem State.irq_eq_false_of_ev_eq_zero {s : State} (h : s.ev = 0) : s.irq = false := by
  simp [State.irq, h]

end Sys2Proof.Machine

/-! ### The statements -/

namespace Sys2Proof.Proofs
open Sys2Proof Sys2Proof.Machine

/-- Settles O9: power-on reset writes no byte of BUF or STAGE, so each reads as its free value; it leaves no event
pending, so IRQ is low; and its LEN, HOLD, COMPLETED and TXOPEN are those of R42's row HUNT. -/
theorem powerOnRegisterValues : Obligations.PowerOnRegisterValues := by
  intro cfg epoch s
  have hbuf : ∀ k, s.readBuf k = Config.bufDraw epoch k := State.readBuf_of_unwritten (State.powerOn_buf cfg epoch)
  have hstage : ∀ k, s.readStage k = Config.stageDraw epoch k :=
    State.readStage_of_unwritten (State.powerOn_stage cfg epoch)
  have hlen : s.len = 0 := State.powerOn_len cfg epoch
  have hcompleted : s.completed = false := State.powerOn_completed cfg epoch
  have hhold : s.hold = false := State.powerOn_hold cfg epoch
  have htxopen : s.txopen = false := State.powerOn_txopen cfg epoch
  have hctrl : s.ctrl = 0b001 := State.powerOn_ctrl cfg epoch
  have hev : s.ev = 0 := State.powerOn_ev cfg epoch
  have hirq : s.irq = false := State.irq_eq_false_of_ev_eq_zero hev
  have hphase : s.phase = some .hunt := State.phase_eq_hunt htxopen hcompleted hhold hlen
  refine ⟨hbuf, hstage, hlen, hcompleted, hhold, htxopen, State.powerOn_altered cfg epoch,
    State.powerOn_ridx cfg epoch, State.powerOn_lastfeed cfg epoch, ?auto, ?ieDone, ?ieErr,
    State.powerOn_errcnt cfg epoch, State.powerOn_seq cfg epoch, hev, State.powerOn_tag cfg epoch,
    State.powerOn_txout cfg epoch, hirq, hphase⟩
  all_goals
    rw [hctrl]
    decide

end Sys2Proof.Proofs
end

section
/-! PROOFS. Encoding and decoding (spec/30_encoding.md R80, R83 to R86): the opcode map reads each operand back from
the field that carries it, in both directions, and it accepts the fields that fit a row of the opcode table. -/

namespace Sys2Proof

/-! ### The opcode map and the fields of an instruction (R83, R84) -/

/-- An operand of `n` bits survives its place in the wider field A. -/
theorem setWidth_setWidth_of_lt {a : Word} {n : Nat} (h : a.toNat < 2 ^ n) : (a.setWidth n).setWidth 16 = a := by
  apply BitVec.eq_of_toNat_eq
  rw [BitVec.toNat_setWidth, BitVec.toNat_setWidth, Nat.mod_eq_of_lt h, Nat.mod_eq_of_lt a.isLt]

/-- The opcode map decodes the fields of an instruction to that instruction. -/
theorem decodeOp_fields (i : Instr) :
    decodeOp { op := opcode i, rsv := 0, a := fieldA i, b := fieldB i } = .ok i := by
  have widen {n : Nat} (hn : n ≤ 16) (v : BitVec n) :
      (v.setWidth 16).toNat < 2 ^ n ∧ (v.setWidth 16).setWidth n = v := by
    refine ⟨?_, (BitVec.setWidth_setWidth_of_le v hn).trans (BitVec.setWidth_eq v)⟩
    rw [BitVec.toNat_setWidth_of_le hn]
    exact v.isLt
  cases i
  case nop | reset | clrHold | clrErrcnt | getWord | peekWord | setChecksum | verifyChecksum | finalize | send |
      resetOutput =>
    exact decodeNone_ok_iff.2 ⟨rfl, rfl, rfl⟩
  case feed v | wrCtrl v | ackEv v | setTarget v | create v | appendByte v =>
    obtain ⟨hlt, hv⟩ := widen (by decide) v
    exact decodeA_ok_iff.2 ⟨hlt, rfl, congrArg _ hv⟩
  case rdReg v | addWord v | appendWord v =>
    exact decodeA_ok_iff.2 ⟨v.isLt, rfl, congrArg _ (BitVec.setWidth_eq v)⟩
  case readByte b | readWord b | checkBuffer b | verifyBuffer b =>
    exact decodeB_ok_iff.2 ⟨rfl, rfl⟩
  case writeByte b v | stageWrite b v =>
    obtain ⟨hlt, hv⟩ := widen (by decide) v
    exact decodeAB_ok_iff.2 ⟨hlt, congrArg _ hv⟩
  case writeWord b v =>
    exact decodeAB_ok_iff.2 ⟨v.isLt, congrArg _ (BitVec.setWidth_eq v)⟩

/-- The instruction the opcode map answers has the fields A and B it was read from. -/
theorem fieldA_fieldB_of_decodeOp {f : RequestFields} {i : Instr} (h : decodeOp f = .ok i) :
    fieldA i = f.a ∧ fieldB i = f.b := by
  unfold decodeOp at h
  split at h
  case h_28 => cases h
  -- an operand of fewer than 16 bits in A, no operand in B
  case h_3 | h_5 | h_7 | h_21 | h_24 | h_25 =>
    obtain ⟨ha, hb, rfl⟩ := decodeA_ok_iff.1 h
    exact ⟨setWidth_setWidth_of_lt ha, hb.symm⟩
  -- a whole word in A, no operand in B
  case h_6 | h_22 | h_26 =>
    obtain ⟨-, hb, rfl⟩ := decodeA_ok_iff.1 h
    exact ⟨BitVec.setWidth_eq f.a, hb.symm⟩
  -- an offset or a length in B alone
  case h_11 | h_12 | h_23 | h_27 =>
    obtain ⟨ha, rfl⟩ := decodeB_ok_iff.1 h
    exact ⟨ha.symm, rfl⟩
  -- an offset in B and an operand in A
  case h_13 | h_15 =>
    obtain ⟨ha, rfl⟩ := decodeAB_ok_iff.1 h
    exact ⟨setWidth_setWidth_of_lt ha, rfl⟩
  case h_14 =>
    obtain ⟨-, rfl⟩ := decodeAB_ok_iff.1 h
    exact ⟨BitVec.setWidth_eq f.a, rfl⟩
  all_goals
    obtain ⟨ha, hb, rfl⟩ := decodeNone_ok_iff.1 h
    exact ⟨ha.symm, hb.symm⟩

/-- A word that decodes has the fields of its instruction. -/
theorem ofWord_of_decode {w : PortWord} {i : Instr} (h : decode w = .ok i) :
    RequestFields.ofWord w = { op := opcode i, rsv := 0, a := fieldA i, b := fieldB i } := by
  obtain ⟨hrsv, hdec⟩ := decode_ok_iff.1 h
  obtain ⟨ha, hb⟩ := fieldA_fieldB_of_decodeOp hdec
  rw [ha, hb, ← op_of_decode h, ← hrsv]

/-! ### What the opcode table accepts (R85, R86) -/

/-- A word with no bit at or above position `n` is below `2 ^ n`. -/
theorem toNat_lt_of_and_allOnes_shiftLeft {a : Word} {n : Nat} (h : a &&& BitVec.allOnes 16 <<< n = 0) :
    a.toNat < 2 ^ n := by
  refine Nat.lt_pow_two_of_testBit _ fun k hk => ?_
  by_cases hk16 : k < 16
  · have hbit : a.getLsbD k = false := by
      have hand := congrArg (BitVec.getLsbD · k) h
      rw [BitVec.getLsbD_and, BitVec.getLsbD_shiftLeft, BitVec.getLsbD_allOnes, decide_eq_true hk16,
        decide_eq_false (Nat.not_lt_of_le hk), decide_eq_true (show k - n < 16 by omega), Bool.not_false, Bool.true_and,
        Bool.true_and, Bool.and_true] at hand
      exact hand.trans BitVec.getLsbD_zero
    exact hbit
  · exact BitVec.getLsbD_of_ge a k (Nat.le_of_not_lt hk16)

/-- A word that matches an instruction's row has fields that fit the row, and RSV is 0. -/
theorem fitsRow_of_and_row {w : PortWord} {i : Instr} (h : w &&& i.row.2 = i.row.1) :
    (RequestFields.ofWord w).FitsRow i ∧ (RequestFields.ofWord w).rsv = 0 := by
  have hfields := congrArg RequestFields.ofWord h
  simp only [Instr.row, RequestFields.ofWord_and, RequestFields.ofWord_toWord, Instr.mask, BitVec.and_allOnes,
    RequestFields.mk.injEq] at hfields
  obtain ⟨hop, hrsv, ha, hb⟩ := hfields
  exact ⟨⟨hop, toNat_lt_of_and_allOnes_shiftLeft ha, hb⟩, hrsv⟩

/-- The opcode map accepts every field that fits a row. -/
theorem decodeOp_of_fitsRow {f : RequestFields} {i : Instr} (h : f.FitsRow i) : ∃ j, decodeOp f = .ok j := by
  obtain ⟨op, rsv, a, b⟩ := f
  obtain ⟨rfl, ha, hb⟩ := h
  cases i
  case readByte | readWord | checkBuffer | verifyBuffer =>
    exact ⟨_, decodeB_ok_iff.2 ⟨BitVec.eq_of_toNat_eq (Nat.lt_one_iff.1 ha), rfl⟩⟩
  case writeByte | writeWord | stageWrite => exact ⟨_, decodeAB_ok_iff.2 ⟨ha, rfl⟩⟩
  all_goals exact ⟨_, decodeA_ok_iff.2 ⟨ha, BitVec.and_allOnes.symm.trans hb, rfl⟩⟩

/-- One instruction for each row of the opcode table, in its order. -/
def rowInstrs : List Instr :=
  [.nop, .reset, .feed 0, .clrHold, .wrCtrl 0, .rdReg 0, .ackEv 0, .clrErrcnt, .getWord, .peekWord, .readByte 0,
   .readWord 0, .writeByte 0 0, .writeWord 0 0, .stageWrite 0 0, .setChecksum, .verifyChecksum, .finalize, .send,
   .resetOutput, .setTarget 0, .addWord 0, .checkBuffer 0, .create 0, .appendByte 0, .appendWord 0,
   .verifyBuffer 0]

theorem opcodeRows_eq_map : Machine.opcodeRows = rowInstrs.map Instr.row := by
  decide

theorem exists_row_eq {row : PortWord × PortWord} (h : row ∈ Machine.opcodeRows) : ∃ i : Instr, i.row = row := by
  rw [opcodeRows_eq_map] at h
  obtain ⟨i, -, hi⟩ := List.mem_map.1 h
  exact ⟨i, hi⟩

/-- A word that matches a row decodes. -/
theorem decode_of_row {w : PortWord} {row : PortWord × PortWord} (hrow : row ∈ Machine.opcodeRows)
    (h : w &&& row.2 = row.1) : ∃ i, decode w = .ok i := by
  obtain ⟨i, rfl⟩ := exists_row_eq hrow
  obtain ⟨hfits, hrsv⟩ := fitsRow_of_and_row h
  obtain ⟨j, hj⟩ := decodeOp_of_fitsRow hfits
  exact ⟨j, decode_ok_iff.2 ⟨hrsv, hj⟩⟩

/-- Every row fixes the whole OP, and no bit above it to 1. -/
theorem opcodeRows_fix_op : ∀ row ∈ Machine.opcodeRows, row.2 &&& 0xFF = 0xFF ∧ row.1 &&& 0xFF = row.1 := by
  simp [Machine.opcodeRows]

/-- A word that matches a row has the row's OP. -/
theorem and_op_of_row {w : PortWord} {row : PortWord × PortWord} (hrow : row ∈ Machine.opcodeRows)
    (h : w &&& row.2 = row.1) : w &&& 0xFF = row.1 := by
  obtain ⟨hmask, hmatch⟩ := opcodeRows_fix_op row hrow
  calc w &&& 0xFF = w &&& row.2 &&& 0xFF := by rw [BitVec.and_assoc, hmask]
    _ = row.1 := by rw [h, hmatch]

end Sys2Proof

/-! ### The statements -/

namespace Sys2Proof.Proofs
open Sys2Proof Sys2Proof.Machine

/-- Settles O1: each word's fields, and then its row of the opcode map, evaluate. -/
theorem specWordsDecode : Obligations.SpecWordsDecode := by
  refine ⟨?_, ?_, ?_, ?_, ?_, ?_, ?_, ?_, ?_, ?_, ?_, ?_⟩ <;> rfl

/-- Settles O2: the fields of the word are the instruction's, and the opcode map reads them back. -/
theorem decodeOfEncodeIsIdentity : Obligations.DecodeOfEncodeIsIdentity := by
  intro i
  rw [decode_ok_iff, ofWord_encode]
  exact ⟨rfl, decodeOp_fields i⟩

/-- Settles O3: the word and its instruction have the same fields, and the fields are the whole word. -/
theorem encodeOfDecodeIsIdentity : Obligations.EncodeOfDecodeIsIdentity := by
  intro w i h
  rw [encode, ← ofWord_of_decode h, RequestFields.toWord_ofWord]

/-- Settles O4: a word matches the row of the instruction it decodes to; and two rows that one word matches have its
OP, which no two rows share. -/
theorem decodeAcceptsExactlyTheOpcodeRows : Obligations.DecodeAcceptsExactlyTheOpcodeRows := by
  refine ⟨fun w => ⟨?_, ?_⟩, fun w p q hp hq hwp hwq => ?_⟩
  · rintro ⟨i, hi⟩
    exact ⟨i.row, i.row_mem_opcodeRows, and_row_of_decode hi⟩
  · rintro ⟨row, hrow, h⟩
    exact decode_of_row hrow h
  · exact List.inj_on_of_nodup_map opcodeRows_nodup_op hp hq
      ((and_op_of_row hp hwp).symm.trans (and_op_of_row hq hwq))

end Sys2Proof.Proofs
end

section
/-! PROOFS. A step of either reassembly machine in two cases (spec/42_command_packet.md R161 to R165,
spec/43_telemetry_packet.md R200 to R205): a byte that belongs at its position is appended, and at the extent of the
packet the checksum decides; a byte that does not is dropped while hunting, else refused. -/

namespace Sys2Proof

/-- The number of header bytes after which the declared length is known (R38). -/
def Config.lengthEnd (c : Config) : Nat :=
  match c.kind with
  | .cmd => 4
  | .tlm => 6

theorem Config.lengthEnd_cmd {c : Config} (h : c.kind = .cmd) : c.lengthEnd = 4 := by
  simp [Config.lengthEnd, h]

theorem Config.lengthEnd_tlm {c : Config} (h : c.kind = .tlm) : c.lengthEnd = 6 := by
  simp [Config.lengthEnd, h]

theorem Config.lengthEnd_le (c : Config) : c.lengthEnd ≤ 6 := by
  unfold Config.lengthEnd
  split <;> decide

theorem Config.eight_le_headerSize (c : Config) : 8 ≤ c.headerSize := by
  unfold Config.headerSize
  split <;> decide

namespace Machine

/-! ### The extent of a packet (R38) -/

/-- The bytes of the packet in BUF by its declared length, known or not yet. -/
def State.extent (s : State) : Nat := s.cfg.headerSize + s.declared

theorem State.declared_cmd {s : State} (hk : s.cfg.kind = .cmd) : s.declared = (s.readBuf 3).toNat := by
  simp [State.declared, hk]

theorem State.declared_tlm {s : State} (hk : s.cfg.kind = .tlm) : s.declared = (s.readBufWord 4).toNat := by
  simp [State.declared, hk]

theorem State.extent_cmd {s : State} (hk : s.cfg.kind = .cmd) : s.extent = 8 + (s.readBuf 3).toNat := by
  rw [State.extent, Config.headerSize_cmd hk, State.declared_cmd hk]

theorem State.extent_tlm {s : State} (hk : s.cfg.kind = .tlm) : s.extent = 16 + (s.readBufWord 4).toNat := by
  rw [State.extent, Config.headerSize_tlm hk, State.declared_tlm hk]

theorem State.eight_le_extent (s : State) : 8 ≤ s.extent :=
  s.cfg.eight_le_headerSize.trans (Nat.le_add_right _ _)

/-- Every extent fits LEN. -/
theorem State.extent_lt (s : State) : s.extent < 65552 := by
  have hdecl := s.declared_lt
  have hheader : s.cfg.headerSize ≤ 16 := by
    unfold Config.headerSize
    split <;> decide
  unfold State.extent
  omega

/-- EXPECT is the extent, once it is known and while no output packet is open (R38). -/
theorem State.expect_of_closed {s : State} (ht : s.txopen = false) :
    s.expect = if s.cfg.lengthEnd ≤ s.len.toNat then s.extent else 0 := by
  cases hk : s.cfg.kind
  · simp [State.expect, ht, hk, Config.lengthEnd_cmd hk, State.extent_cmd hk]
  · simp [State.expect, ht, hk, Config.lengthEnd_tlm hk, State.extent_tlm hk]

/-- The declared length depends on the header bytes up to the length field alone. -/
theorem State.declared_congr {s t : State} (hcfg : t.cfg = s.cfg)
    (h : ∀ k < s.cfg.lengthEnd, t.readBuf k = s.readBuf k) : t.declared = s.declared := by
  cases hk : s.cfg.kind
  · have hend := Config.lengthEnd_cmd hk
    rw [State.declared_cmd hk, State.declared_cmd (hcfg ▸ hk), h 3 (by omega)]
  · have hend := Config.lengthEnd_tlm hk
    rw [State.declared_tlm hk, State.declared_tlm (hcfg ▸ hk), State.readBufWord, State.readBufWord, h 4 (by omega),
      h (4 + 1) (by omega)]

theorem State.readBuf_append_of_ne {s : State} (b : Byte) {k : Nat} (h : k ≠ s.len.toNat) :
    (s.append b).readBuf k = s.readBuf k :=
  (s.readBuf_append b k).trans (if_neg (mt And.left h))

theorem State.readBuf_append_len {s : State} (b : Byte) (h : s.len.toNat < s.cfg.capacity) :
    (s.append b).readBuf s.len.toNat = b :=
  (s.readBuf_append b _).trans (if_pos ⟨rfl, h⟩)

/-- A byte appended behind the length field leaves the extent. -/
theorem State.extent_append {s : State} (b : Byte) (h : s.cfg.lengthEnd ≤ s.len.toNat) :
    (s.append b).extent = s.extent :=
  congrArg (s.cfg.headerSize + ·)
    (State.declared_congr (s := s) (t := s.append b) rfl fun _ hk => State.readBuf_append_of_ne b (by omega))

/-! ### A byte that belongs at its position -/

/-- The byte `b` belongs at position LEN of a packet: the two sync bytes (R161, R162, R200), the length byte of a
command (R164), the type and the length of a telemetry packet (R201, R204). -/
structure State.Accepts (s : State) (b : Byte) : Prop where
  sync0 : s.len.toNat = 0 → b = 0x9A
  sync1 : s.len.toNat = 1 → b = 0xC3
  command : s.cfg.kind = .cmd → s.len.toNat = 3 → b.toNat < s.cfg.cmdMaxPayload
  type : s.cfg.kind = .tlm → s.len.toNat = 2 → (s.cfg.schemaAt b).isSome = true
  length : s.cfg.kind = .tlm → s.len.toNat = 5 →
    ∃ e, s.schemaEntry = some e ∧ e.lenOK (le16 (s.readBuf 4) b).toNat = true

theorem State.accepts_cmd_iff {s : State} {b : Byte} (hk : s.cfg.kind = .cmd) :
    s.Accepts b ↔ (s.len.toNat = 0 → b = 0x9A) ∧ (s.len.toNat = 1 → b = 0xC3) ∧
      (s.len.toNat = 3 → b.toNat < s.cfg.cmdMaxPayload) :=
  ⟨fun h => ⟨h.sync0, h.sync1, h.command hk⟩,
    fun ⟨h0, h1, h3⟩ => ⟨h0, h1, fun _ => h3, by simp [hk], by simp [hk]⟩⟩

theorem State.accepts_tlm_iff {s : State} {b : Byte} (hk : s.cfg.kind = .tlm) :
    s.Accepts b ↔ (s.len.toNat = 0 → b = 0x9A) ∧ (s.len.toNat = 1 → b = 0xC3) ∧
      (s.len.toNat = 2 → (s.cfg.schemaAt b).isSome = true) ∧
      (s.len.toNat = 5 → ∃ e, s.schemaEntry = some e ∧ e.lenOK (le16 (s.readBuf 4) b).toNat = true) :=
  ⟨fun h => ⟨h.sync0, h.sync1, h.type hk, h.length hk⟩,
    fun ⟨h0, h1, h2, h5⟩ => ⟨h0, h1, by simp [hk], fun _ => h2, fun _ => h5⟩⟩

/-- A byte taken at LEN is appended; in the header the packet is not complete with it. -/
theorem takeByte_eq_bodyStep (ck : Checksum) {s : State} (b : Byte) {k : Nat} (hk : s.len.toNat = k) (hk6 : k < 6) :
    takeByte s k b = bodyStep ck (s.append b).extent (s.append b) := by
  have hlen : (s.append b).len.toNat = k + 1 := hk ▸ State.toNat_append_len b (by omega)
  have hext := (s.append b).eight_le_extent
  have hnext : BitVec.ofNat 17 (k + 1) = s.len + 1 := by
    apply BitVec.eq_of_toNat_eq
    rw [← hk]
    simp
  rw [bodyStep_of_ne ck (by omega), takeByte, hnext, State.append, hk]

/-- What a step of a reassembly machine from `s` with byte `b` is. -/
inductive StepKind (ck : Checksum) (s : State) (b : Byte) : FsmStep → Prop where
  /-- the byte is stored at LEN, and at the extent the checksum decides -/
  | appended (h : s.Accepts b) : StepKind ck s b (bodyStep ck (s.append b).extent (s.append b))
  /-- the byte is dropped while hunting -/
  | dropped (hlen : s.len.toNat = 0) (hb : b ≠ 0x9A) : StepKind ck s b ⟨s, .incomplete, true⟩
  /-- the byte is refused -/
  | refused (hlen : s.len.toNat ≠ 0) (h : ¬s.Accepts b) (st : Status) (hst : st.isFraming = true) :
      StepKind ck s b (refuseByte s st)

/-- A byte taken at a header position that accepts it. -/
theorem StepKind.of_takeByte {ck : Checksum} {s : State} {b : Byte} {k : Nat} (hk : s.len.toNat = k) (hk6 : k < 6)
    (h : s.Accepts b) : StepKind ck s b (takeByte s k b) := by
  rw [takeByte_eq_bodyStep ck b hk hk6]
  exact .appended h

theorem huntStep_kind (ck : Checksum) {s : State} (b : Byte) (hlen : s.len.toNat = 0) :
    StepKind ck s b (huntStep b s) := by
  unfold huntStep
  split
  case isTrue hb =>
    exact .of_takeByte hlen (by decide) ⟨fun _ => hb, by simp [hlen], by simp [hlen], by simp [hlen], by simp [hlen]⟩
  case isFalse hb => exact .dropped hlen hb

theorem syncStep_kind (ck : Checksum) {s : State} (b : Byte) (hlen : s.len.toNat = 1) :
    StepKind ck s b (syncStep b s) := by
  unfold syncStep
  split
  case isTrue hb =>
    exact .of_takeByte hlen (by decide) ⟨by simp [hlen], fun _ => hb, by simp [hlen], by simp [hlen], by simp [hlen]⟩
  case isFalse hb => exact .refused (by omega) (fun h => hb (h.sync1 hlen)) _ rfl

theorem cmdStep_kind (ck : Checksum) (b : Byte) {s : State} (hk : s.cfg.kind = .cmd) :
    StepKind ck s b (cmdStep ck b s) := by
  unfold cmdStep
  split
  case h_1 hlen => exact huntStep_kind ck b hlen
  case h_2 hlen => exact syncStep_kind ck b hlen
  case h_3 hlen => exact .of_takeByte hlen (by decide) (by simp [State.accepts_cmd_iff hk, hlen])
  case h_4 hlen =>
    split
    case isTrue hb => exact .refused (by omega) (fun h => Nat.not_lt_of_le hb (h.command hk hlen)) _ rfl
    case isFalse hb =>
      exact .of_takeByte hlen (by decide) (by simpa [State.accepts_cmd_iff hk, hlen] using Nat.lt_of_not_le hb)
  case h_5 h0 h1 _ h3 =>
    have hext := State.extent_cmd (s := s.append b) hk
    dsimp only
    rw [← hext]
    exact .appended ((State.accepts_cmd_iff hk).2 ⟨fun h => absurd h h0, fun h => absurd h h1, fun h => absurd h h3⟩)

theorem tlmLengthStep_kind (ck : Checksum) (b : Byte) {s : State} (hk : s.cfg.kind = .tlm)
    (hlen : s.len.toNat = 5) : StepKind ck s b (tlmLengthStep b s) := by
  unfold tlmLengthStep
  split
  case h_1 hnone =>
    refine .refused (by omega) (fun h => ?_) _ rfl
    obtain ⟨e, he, -⟩ := h.length hk hlen
    simp [hnone] at he
  case h_2 e hentry =>
    split
    case isTrue hok => exact .of_takeByte hlen (by decide) (by simpa [State.accepts_tlm_iff hk, hlen, hentry] using hok)
    case isFalse hbad =>
      refine .refused (by omega) (fun h => hbad ?_) _ rfl
      simpa [hentry] using h.length hk hlen

theorem tlmStep_kind (ck : Checksum) (b : Byte) {s : State} (hk : s.cfg.kind = .tlm) :
    StepKind ck s b (tlmStep ck b s) := by
  unfold tlmStep
  split
  case h_1 hlen => exact huntStep_kind ck b hlen
  case h_2 hlen => exact syncStep_kind ck b hlen
  case h_3 hlen =>
    split
    case isTrue hnone =>
      refine .refused (by omega) (fun h => ?_) _ rfl
      have hsome := h.type hk hlen
      simp_all
    case isFalse hsome =>
      exact .of_takeByte hlen (by decide)
        (by simpa [State.accepts_tlm_iff hk, hlen, Option.isSome_iff_ne_none] using hsome)
  case h_4 hlen => exact .of_takeByte hlen (by decide) (by simp [State.accepts_tlm_iff hk, hlen])
  case h_5 hlen => exact .of_takeByte hlen (by decide) (by simp [State.accepts_tlm_iff hk, hlen])
  case h_6 hlen => exact tlmLengthStep_kind ck b hk hlen
  case h_7 h0 h1 h2 h3 h4 h5 =>
    have hend : s.cfg.lengthEnd ≤ s.len.toNat := by
      simp only [imp_false] at h0 h1 h2 h3 h4 h5
      rw [Config.lengthEnd_tlm hk]
      omega
    rw [← State.extent_tlm hk, ← State.extent_append b hend]
    exact .appended ((State.accepts_tlm_iff hk).2
      ⟨fun h => absurd h h0, fun h => absurd h h1, fun h => absurd h h2, fun h => absurd h h5⟩)

/-- All a step of either machine can be. -/
theorem fsmStep_kind (ck : Checksum) (b : Byte) (s : State) : StepKind ck s b (fsmStep ck b s) := by
  cases hk : s.cfg.kind
  · rw [fsmStep_cmd ck b hk]
    exact cmdStep_kind ck b hk
  · rw [fsmStep_tlm ck b hk]
    exact tlmStep_kind ck b hk

/-- A byte that belongs at its position is appended. -/
theorem fsmStep_of_accepts (ck : Checksum) {s : State} {b : Byte} (h : s.Accepts b) :
    fsmStep ck b s = bodyStep ck (s.append b).extent (s.append b) := by
  generalize hr : fsmStep ck b s = r
  have hkind : StepKind ck s b r := hr ▸ fsmStep_kind ck b s
  cases hkind with
  | appended => rfl
  | dropped hlen hb => exact absurd (h.sync0 hlen) hb
  | refused _ hnot => exact absurd h hnot

end Machine
end Sys2Proof
end

section
/-! PROOFS. The invariants of spec/10_state.md R46 under a step. While a packet is received, the bytes so far are a
header that each step has checked, and the packet is shorter than its extent; so it completes with all that a
completed packet promises. An output packet keeps its header, and every other change clears the packet. -/

namespace Sys2Proof.Machine

/-! ### The packet in BUF while it is received -/

/-- What the reassembly machine has checked of the LEN bytes in BUF, at each header position it has passed. -/
structure HeaderSoFar (s : State) : Prop where
  sync0 : 1 ≤ s.len.toNat → s.readBuf 0 = 0x9A
  sync1 : 2 ≤ s.len.toNat → s.readBuf 1 = 0xC3
  command : s.cfg.kind = .cmd → 4 ≤ s.len.toNat → (s.readBuf 3).toNat < s.cfg.cmdMaxPayload
  type : s.cfg.kind = .tlm → 3 ≤ s.len.toNat → s.schemaEntry.isSome = true
  length : s.cfg.kind = .tlm → 6 ≤ s.len.toNat → ∃ e, s.schemaEntry = some e ∧ e.lenOK s.declared = true

/-- The packet in BUF is not complete: LEN is below the extent once that is known. -/
def State.Unfinished (s : State) : Prop := s.cfg.lengthEnd ≤ s.len.toNat → s.len.toNat < s.extent

/-- Invariant 6 of R46 is a checked header and a packet that is not complete. -/
theorem receivedSoFar_iff {s : State} (ht : s.txopen = false) (hl : s.len ≠ 0) :
    ReceivedSoFar s ↔ HeaderSoFar s ∧ s.Unfinished := by
  have hpos : 1 ≤ s.len.toNat := Nat.one_le_iff_ne_zero.2 fun h => hl (BitVec.eq_of_toNat_eq h)
  constructor
  · intro h
    refine ⟨⟨fun _ => h.sync0, h.sync1, fun hk h4 => (h.command hk h4).1, h.telemetryType,
      fun hk h6 => (h.telemetryLength hk h6).1⟩, fun hend => ?_⟩
    have hexp := State.expect_of_closed ht
    rw [if_pos hend] at hexp
    rw [← hexp]
    cases hk : s.cfg.kind
    · exact (h.command hk (Config.lengthEnd_cmd hk ▸ hend)).2
    · exact (h.telemetryLength hk (Config.lengthEnd_tlm hk ▸ hend)).2
  · rintro ⟨h, hun⟩
    have hbelow (hend : s.cfg.lengthEnd ≤ s.len.toNat) : s.len.toNat < s.expect := by
      rw [State.expect_of_closed ht, if_pos hend]
      exact hun hend
    exact ⟨h.sync0 hpos, h.sync1, fun hk h4 => ⟨h.command hk h4, hbelow (Config.lengthEnd_cmd hk ▸ h4)⟩, h.type,
      fun hk h6 => ⟨h.length hk h6, hbelow (Config.lengthEnd_tlm hk ▸ h6)⟩⟩

/-- Under R46, without an output packet and without a completed one. -/
theorem Invariants.headerSoFar {ck : Checksum} {s : State} (h : Invariants ck s) (ht : s.txopen = false)
    (hc : s.completed = false) : HeaderSoFar s ∧ s.Unfinished := by
  by_cases hl : s.len = 0
  · have hl0 : s.len.toNat = 0 := congrArg BitVec.toNat hl
    refine ⟨⟨?_, ?_, ?_, ?_, ?_⟩, fun _ => by have := s.eight_le_extent; omega⟩ <;> intros <;> omega
  · exact (receivedSoFar_iff ht hl).1 (h.receiving ht hc hl)

/-- Before LEN reaches an unfinished packet's extent it does not wrap. -/
theorem State.Unfinished.toNat_append_len {s : State} (h : s.Unfinished) (b : Byte) :
    (s.append b).len.toNat = s.len.toNat + 1 := by
  refine State.toNat_append_len b ?_
  by_cases hend : s.cfg.lengthEnd ≤ s.len.toNat
  · have hlt := h hend
    have hext := s.extent_lt
    omega
  · have := s.cfg.lengthEnd_le
    omega

/-- A byte that belongs at its position extends the checked header. -/
theorem HeaderSoFar.append {s : State} {b : Byte} (h : HeaderSoFar s) (ha : s.Accepts b)
    (hlen : (s.append b).len.toNat = s.len.toNat + 1) : HeaderSoFar (s.append b) := by
  have hold {k : Nat} (hk : k ≠ s.len.toNat) : (s.append b).readBuf k = s.readBuf k := State.readBuf_append_of_ne b hk
  have hnew {k : Nat} (hk : s.len.toNat = k) (hk8 : k < 8) : (s.append b).readBuf k = b := by
    have hcap := s.cfg.eight_le_capacity
    exact hk ▸ State.readBuf_append_len b (by omega)
  refine ⟨fun hpos => ?_, fun h2 => ?_, fun hk h4 => ?_, fun hk h3 => ?_, fun hk h6 => ?_⟩
  · by_cases hz : s.len.toNat = 0
    · exact (hnew hz (by decide)).trans (ha.sync0 hz)
    · exact (hold (by omega)).trans (h.sync0 (by omega))
  · by_cases hl : s.len.toNat = 1
    · exact (hnew hl (by decide)).trans (ha.sync1 hl)
    · exact (hold (by omega)).trans (h.sync1 (by omega))
  · by_cases hl : s.len.toNat = 3
    · rw [hnew hl (by decide)]
      exact ha.command hk hl
    · rw [hold (by omega)]
      exact h.command hk (by omega)
  · by_cases hl : s.len.toNat = 2
    · rw [State.schemaEntry, hnew hl (by decide)]
      exact ha.type hk hl
    · rw [State.schemaEntry, hold (by omega)]
      exact h.type hk (by omega)
  · rw [State.schemaEntry, hold (by omega), State.append_cfg]
    by_cases hl : s.len.toNat = 5
    · rw [State.declared_tlm (s := s.append b) hk, State.readBufWord, hold (by omega), hnew hl (by decide)]
      exact ha.length hk hl
    · have hdecl : (s.append b).declared = s.declared :=
        State.declared_congr (s := s) rfl fun k hlt => hold (by rw [Config.lengthEnd_tlm (c := s.cfg) hk] at hlt; omega)
      rw [hdecl]
      exact h.length hk (by omega)

/-- With one byte more an unfinished packet is at most complete. -/
theorem State.Unfinished.append {s : State} (h : s.Unfinished) (b : Byte)
    (hne : (s.append b).len.toNat ≠ (s.append b).extent) : (s.append b).Unfinished := by
  intro _
  rw [h.toNat_append_len b] at hne ⊢
  by_cases hend : s.cfg.lengthEnd ≤ s.len.toNat
  · have hlt := h hend
    rw [State.extent_append b hend] at hne ⊢
    omega
  · have hend6 := s.cfg.lengthEnd_le
    have hext := (s.append b).eight_le_extent
    omega

/-- The declared length of a checked header is inside BUF, so an unfinished packet has room for a byte (R6). -/
theorem HeaderSoFar.len_lt_capacity {s : State} (hv : s.cfg.valid = true) (h : HeaderSoFar s) (hun : s.Unfinished) :
    s.len.toNat < s.cfg.capacity := by
  by_cases hend : s.cfg.lengthEnd ≤ s.len.toNat
  · have hlt := hun hend
    cases hk : s.cfg.kind
    · have hmax := h.command hk (Config.lengthEnd_cmd hk ▸ hend)
      rw [State.extent_cmd hk] at hlt
      rw [Config.capacity_cmd hk]
      omega
    · obtain ⟨e, he, hok⟩ := h.length hk (Config.lengthEnd_tlm hk ▸ hend)
      have hle := SchemaEntry.le_of_lenOK hok
      have hmax := Config.schemaAt_len_le hv he
      rw [State.extent_tlm hk, ← State.declared_tlm hk] at hlt
      rw [Config.capacity_tlm hk]
      omega
  · have hend6 := s.cfg.lengthEnd_le
    have hcap := s.cfg.eight_le_capacity
    omega

/-- A checked header, the whole extent and a right checksum are a completed packet. -/
theorem CompletedPacket.of_header {ck : Checksum} {s : State} (ht : s.txopen = false) (h : HeaderSoFar s)
    (hlen : s.len.toNat = s.extent) (hck : s.imageChecksum ck = s.storedChecksum) : CompletedPacket ck s := by
  have hext := s.eight_le_extent
  have hend : s.cfg.lengthEnd ≤ s.len.toNat := by have := s.cfg.lengthEnd_le; omega
  refine ⟨?_, ?_, h.sync0 (by omega), h.sync1 (by omega), hck, fun hk => h.command hk (by omega),
    fun hk => h.length hk (by omega)⟩
  · rw [State.expect_of_closed ht, if_pos hend, hlen]
  · rw [hlen]
    exact Nat.le_add_right _ _

/-! ### FEED keeps the invariants -/

/-- The invariants of a state with a completed packet. -/
theorem Invariants.of_completed {ck : Checksum} {s : State} (hl : s.len.toNat ≤ s.cfg.capacity)
    (hc : s.completed = true) (hh : s.hold = false) (ht : s.txopen = false) (hp : CompletedPacket ck s) :
    Invariants ck s := by
  constructor <;> simp_all

/-- A framing error leaves a state that hunts. -/
theorem Invariants.of_framing {ck : Checksum} {s : State} {st : Status} (hst : st.isFraming = true)
    (hc : s.completed = false) (ht : s.txopen = false) (hr : s.ridx = 0) :
    Invariants ck ({ s with len := 0 }.afterStep st) := by
  rw [State.afterStep_framing _ hst]
  exact .of_hunting rfl hc ht hr

/-- What follows the byte appended at LEN keeps the invariants, whatever is decided at the extent. -/
theorem Invariants.of_append {ck : Checksum} {s : State} {b : Byte} (hv : s.cfg.valid = true) (h : Invariants ck s)
    (hidle : s.feedHeld = false) (ha : s.Accepts b) {r : FsmStep}
    (hr : r = bodyStep ck (s.append b).extent (s.append b)) : Invariants ck (r.state.afterStep r.status) := by
  obtain ⟨ht, hc, hh⟩ := s.feedHeld_eq_false_iff.1 hidle
  obtain ⟨hhead, hun⟩ := h.headerSoFar ht hc
  have hlen := hun.toNat_append_len b
  have hcap : (s.append b).len.toNat ≤ s.cfg.capacity := hlen.trans_le (hhead.len_lt_capacity hv hun)
  have hhead' : HeaderSoFar (s.append b) := hhead.append ha hlen
  by_cases hext : (s.append b).len.toNat = (s.append b).extent
  · by_cases hck : (s.append b).imageChecksum ck = (s.append b).storedChecksum
    · rw [hr, bodyStep_of_valid hext hck, State.afterStep_ok]
      have hp : CompletedPacket ck (s.append b) := .of_header ht hhead' hext hck
      exact .of_completed hcap rfl hh ht
        ⟨hp.extent, hp.header, hp.sync0, hp.sync1, hp.checksum, hp.command, hp.telemetry⟩
    · rw [hr, bodyStep_of_invalid hext hck]
      exact .of_framing (s := s.append b) rfl hc ht (h.cursor hc)
  · rw [hr, bodyStep_of_ne ck hext, State.afterStep_incomplete]
    have hinv : Invariants ck (s.append b) := .of_receiving hcap hc hh ht (h.cursor hc)
      fun hl => (receivedSoFar_iff (s := s.append b) ht hl).2 ⟨hhead', hun.append b hext⟩
    exact hinv.congr rfl (fun _ => rfl) rfl rfl rfl rfl fun _ => h.cursor hc

theorem Invariants.after_feed {ck : Checksum} {s : State} (b : Byte) (hv : s.cfg.valid = true) (h : Invariants ck s)
    (hidle : s.feedHeld = false) :
    Invariants ck ((fsmStep ck b s).state.afterStep (fsmStep ck b s).status) := by
  obtain ⟨ht, hc, -⟩ := s.feedHeld_eq_false_iff.1 hidle
  generalize hr : fsmStep ck b s = r
  have hkind : StepKind ck s b r := hr ▸ fsmStep_kind ck b s
  cases hkind with
  | appended ha => exact h.of_append hv hidle ha rfl
  | dropped => exact h.congr rfl (fun _ => rfl) rfl rfl rfl rfl h.cursor
  | refused _ _ _ hst => exact .of_framing hst hc ht (h.cursor hc)

/-! ### The other operations keep the invariants -/

/-- An operation on an output packet that does not shorten it and keeps it inside BUF. -/
theorem Invariants.keep_output {ck : Checksum} {s t : State} (h : Invariants ck s) (ht : s.txopen = true)
    (hcfg : t.cfg = s.cfg) (hle : s.len.toNat ≤ t.len.toNat) (hcap : t.len.toNat ≤ s.cfg.capacity)
    (hc : t.completed = s.completed) (hh : t.hold = s.hold) (htx : t.txopen = s.txopen) (hr : t.ridx = s.ridx) :
    Invariants ck t := by
  obtain ⟨hc', hh', hs, hr'⟩ := h.output_packet ht
  exact .of_output (hcfg ▸ hcap) (hc.trans hc') (hh.trans hh') (hcfg ▸ hs.trans hle) (htx.trans ht) (hr.trans hr')

/-- A held state has no packet, so with the hold released it hunts (R242). -/
theorem Invariants.releaseHold {ck : Checksum} {s : State} (h : Invariants ck s) : Invariants ck s.releaseHold := by
  cases hh : s.hold with
  | false => exact h.congr rfl (fun _ => rfl) rfl rfl hh.symm rfl h.cursor
  | true =>
    obtain ⟨hl, hc, ht⟩ := h.held hh
    exact .of_hunting hl hc ht (h.cursor hc)

/-- The checksum of a packet may be sealed: an output packet stays one, and of a completed packet no byte changes. -/
theorem Invariants.sealChecksum {ck : Checksum} {s : State} (h : Invariants ck s) (hp : s.packetPresent = true) :
    Invariants ck (s.sealChecksum ck) := by
  rcases s.packetPresent_iff.1 hp with ht | hc
  · exact h.keep_output ht rfl (Nat.le_refl _) h.lenBound rfl rfl rfl rfl
  · exact h.congr rfl (State.readBuf_sealChecksum_of_valid (h.done hc).checksum) rfl rfl rfl rfl h.cursor

/-- The packet CHECK_BUFFER takes from STAGE is a completed packet (R169). -/
theorem completedPacket_stageTaken {ck : Checksum} {s : State} {n : Nat} (hv : s.cfg.valid = true)
    (hk : s.cfg.kind = .cmd) (h : checkBufferError ck n s = none) :
    (s.stageTaken n).len.toNat = n ∧ CompletedPacket ck (s.stageTaken n) := by
  obtain ⟨h8, hcap, h0, h1, hmax, hn, hck⟩ := (checkBufferError_eq_none_iff ck n s).1 h
  have hlen : (s.stageTaken n).len.toNat = n :=
    (BitVec.toNat_ofNat n 17).trans (Nat.mod_eq_of_lt ((hcap.trans (Config.capacity_lt hv)).trans_lt (by decide)))
  have hread {k : Nat} (hlt : k < n) : (s.stageTaken n).readBuf k = s.readStage k :=
    State.readBuf_stageTaken_of_lt hlt hcap
  have himage : (s.stageTaken n).bufPrefix n = s.stagePrefix n :=
    List.map_congr_left fun k hlt => hread (List.mem_range.1 hlt)
  have hstored : (s.stageTaken n).storedChecksum = s.readStageWord 6 := by
    rw [State.storedChecksum, State.readBufWord, hread (by omega), hread (by omega), State.readStageWord]
  have htlm : (s.stageTaken n).cfg.kind ≠ .tlm := fun h => absurd (hk.symm.trans h) (by decide)
  refine ⟨hlen, .of_header rfl ⟨fun _ => ?_, fun _ => ?_, fun _ _ => ?_, fun h => absurd h htlm,
    fun h => absurd h htlm⟩ ?_ ?_⟩
  · exact (hread (by omega)).trans h0
  · exact (hread (by omega)).trans h1
  · rw [hread (by omega)]
    exact hmax
  · rw [hlen, State.extent_cmd (s := s.stageTaken n) hk, hread (by omega), hn]
  · rw [hstored, State.imageChecksum, hlen, himage, hck]

theorem Invariants.stageTaken {ck : Checksum} {s : State} {n : Nat} (hv : s.cfg.valid = true) (hk : s.cfg.kind = .cmd)
    (h : checkBufferError ck n s = none) : Invariants ck (s.stageTaken n) := by
  obtain ⟨hlen, hp⟩ := completedPacket_stageTaken hv hk h
  obtain ⟨-, hcap, -⟩ := (checkBufferError_eq_none_iff ck n s).1 h
  exact .of_completed (hlen.trans_le hcap) rfl rfl rfl hp

/-- An append that fits into BUF does not wrap LEN. -/
theorem toNat_len_add {s : State} (hv : s.cfg.valid = true) {k : Nat} (hcap : s.len.toNat + k ≤ s.cfg.capacity) :
    (s.len + BitVec.ofNat 17 k).toNat = s.len.toNat + k := by
  have hmax := Config.capacity_lt_two_pow hv
  rw [BitVec.toNat_add, BitVec.toNat_ofNat, Nat.mod_eq_of_lt (show k < 2 ^ 17 by omega),
    Nat.mod_eq_of_lt (by omega)]

/-- Every effect of an instruction keeps the invariants. -/
theorem Effect.invariants {s : State} {i : Instr} {r : Reply} (he : Effect s i r) (hv : s.cfg.valid = true)
    (h : Invariants Config.ck s) : Invariants Config.ck r.1 := by
  cases he with
  | kept => exact h
  | reset => exact .of_hunting rfl rfl rfl rfl
  | clrHold => exact h.releaseHold
  | wrCtrl | ackEv | clrErrcnt | stageWrite =>
    exact h.congr rfl (fun _ => rfl) rfl rfl rfl rfl h.cursor
  | feed b hidle => exact h.after_feed b hv hidle
  | getWord hc => exact h.congr rfl (fun _ => rfl) rfl rfl rfl rfl fun hc' => absurd (hc.symm.trans hc') (by decide)
  | writeByte _ _ ht | writeWord _ _ ht | setTarget _ _ ht =>
    exact h.keep_output ht rfl (Nat.le_refl _) h.lenBound rfl rfl rfl rfl
  | setChecksum hp => exact h.sealChecksum hp
  | finalize s' ht hl | send s' ht hl =>
    obtain ⟨m, rfl⟩ : ∃ m, s' = { s with buf := m } := ⟨_, finalizeLength_frame hl⟩
    exact h.keep_output ht rfl (Nat.le_refl _) h.lenBound rfl rfl rfl rfl
  | resetOutput hk =>
    exact .of_output s.cfg.eight_le_capacity rfl rfl (Config.headerSize_cmd hk).le rfl rfl
  | create t e hk =>
    exact .of_output (Config.sixteen_le_capacity hk) rfl rfl (Config.headerSize_tlm hk).le rfl rfl
  | checkBuffer n hk hn => exact .stageTaken hv hk hn
  | addWord _ _ ht hcap =>
    have hlen := toNat_len_add hv hcap
    exact h.keep_output ht rfl ((Nat.le_add_right _ _).trans hlen.ge) (hlen.trans_le hcap) rfl rfl rfl rfl
  | appendByte _ _ _ ht _ hcap | appendWord _ _ _ ht _ hcap =>
    have hlen := toNat_len_add hv hcap
    exact h.keep_output ht rfl ((Nat.le_add_right _ _).trans hlen.ge) (hlen.trans_le hcap) rfl rfl rfl rfl

/-- The response record and what the host presents next do not matter to the invariants. -/
theorem Invariants.record {ck : Checksum} {s : State} (h : Invariants ck s) (r : Response) :
    Invariants ck (s.record r) :=
  h.congr rfl (fun _ => rfl) rfl rfl rfl rfl h.cursor

theorem Invariants.withPending {ck : Checksum} {s : State} (h : Invariants ck s) (rest : List HostEvent) :
    Invariants ck { s with pending := rest } :=
  h.congr rfl (fun _ => rfl) rfl rfl rfl rfl h.cursor

theorem Invariants.after_exec {i : Instr} {s t : State} (hv : s.cfg.valid = true) (h : Invariants Config.ck s)
    (hexec : exec i s = .next t) : Invariants Config.ck t := by
  obtain ⟨r, he, rfl⟩ := exec_next hexec
  exact (he.invariants hv h).record r.2

end Sys2Proof.Machine

/-! ### The statements -/

namespace Sys2Proof.Proofs
open Sys2Proof Sys2Proof.Machine

/-- Settles O13: nothing, RST, or a request, each of whose effects keeps the invariants. -/
theorem stepKeepsTheInvariants : Obligations.StepKeepsTheInvariants := by
  intro s t h hstep
  obtain ⟨hv, ⟨-, rfl⟩ | ⟨rest, -, rfl⟩ | ⟨w, rest, i, -, -, hexec⟩ | ⟨w, rest, e, -, -, rfl⟩⟩ := step_cases hstep
  · exact h
  · exact .of_hunting rfl rfl rfl rfl
  · exact Invariants.after_exec (s := { s with pending := rest }) hv (h.withPending rest) hexec
  · exact (h.withPending rest).record _

end Sys2Proof.Proofs
end

section
/-! PROOFS. The outcomes of a FEED that is not held (spec/42_command_packet.md R160, R166 to R168;
spec/60_exceptions.md R264, R268): the reply, as an update of the state, for a byte consumed without an event, for a
framing error and for a completion. -/

namespace Sys2Proof.Machine

/-- The TAG a completion leaves (R37, R168, R207; log 10). -/
def State.completionTag (s : State) : DWord :=
  match s.cfg.kind, s.cfg.schemaAt (s.readBuf 2) with
  | .tlm, some e => e.tag
  | .tlm, none => s.tag
  | .cmd, _ => s.tag

theorem State.completionTag_cmd {s : State} (hk : s.cfg.kind = .cmd) : s.completionTag = s.tag := by
  simp [State.completionTag, hk]

theorem State.completion_eq (s : State) :
    s.completion = { s with completed := true, ridx := 0, ev := s.ev ||| 1, tag := s.completionTag } := by
  unfold State.completion State.completionTag
  cases s.cfg.kind <;> cases s.cfg.schemaAt (s.readBuf 2) <;> rfl

/-- What a FEED with byte `b`, accepted in state `s`, can answer, where `m` are then the bytes of BUF. -/
inductive FeedOutcome (s : State) (b : Byte) (m : Memory) : Reply → Prop where
  /-- the byte is consumed and nothing else happens -/
  | consumed (l : BitVec 17) (hl : l = s.len + 1 ∨ (s.len = 0 ∧ b ≠ 0x9A ∧ l = s.len ∧ m = s.buf)) :
      FeedOutcome s b m ({ s with buf := m, len := l, lastfeed := .incomplete }, ⟨.incomplete, true, 0⟩)
  /-- a framing error -/
  | framing (st : Status) (acc : Bool) (hst : st.isFraming = true) :
      FeedOutcome s b m
        ({ s with buf := m, len := 0, lastfeed := st, errcnt := s.errcnt + 1, ev := s.ev ||| 2,
                  hold := !s.ctrl.getLsbD 0 }, ⟨st, acc, 0⟩)
  /-- the packet is complete -/
  | completed :
      FeedOutcome s b m
        ({ s with buf := m, len := s.len + 1, lastfeed := .ok, completed := true, ridx := 0, ev := s.ev ||| 1,
                  tag := { s with buf := m }.completionTag }, ⟨.ok, true, 0⟩)

section
variable {s : State} {b : Byte} {m : Memory} {r : Reply} (ho : FeedOutcome s b m r)
include ho

/-- FEED leaves the configuration, the draw of the buffers, what the host presents next and the record. -/
theorem FeedOutcome.frame :
    r.1.cfg = s.cfg ∧ r.1.epoch = s.epoch ∧ r.1.pending = s.pending ∧ r.1.responses = s.responses := by
  cases ho <;> exact ⟨rfl, rfl, rfl, rfl⟩

/-- Only a completion writes RIDX, and it writes 0. -/
theorem FeedOutcome.ridx_eq_zero (h : s.ridx = 0) : r.1.ridx = 0 := by
  cases ho with
  | consumed | framing => exact h
  | completed => rfl

/-- A FEED that is not held does not answer HELD. -/
theorem FeedOutcome.status_ne_held : r.2.status ≠ .held := by
  cases ho with
  | consumed | completed => exact fun h => nomatch h
  | framing st _ hst =>
    rintro (rfl : st = .held)
    nomatch hst

end

/-- The bytes of BUF after a FEED: canonical where they were, and changed at LEN alone. -/
structure FedBytes (s : State) (m : Memory) : Prop where
  canonical : s.buf.wf s.cfg.capacity = true → m.wf s.cfg.capacity = true
  others : ∀ k, k ≠ s.len.toNat → { s with buf := m }.readBuf k = s.readBuf k

/-- The reply of a FEED that is not held is one of the three. -/
theorem feed_outcome (ck : Checksum) (b : Byte) {s : State} (hidle : s.feedHeld = false) :
    ∃ m, FedBytes s m ∧ FeedOutcome s b m (feed ck b s) := by
  rw [feed_step ck b hidle]
  obtain ⟨hframe, hbytes, hwf, houtcome, hlength⟩ := fsmStep_shape ck b s
  generalize fsmStep ck b s = r at *
  obtain ⟨u, st, acc⟩ := r
  obtain ⟨m, l, rfl⟩ : ∃ m l, u = { s with buf := m, len := l } := ⟨_, _, hframe⟩
  refine ⟨m, ⟨hwf, hbytes⟩, ?_⟩
  rcases houtcome with ⟨rfl, rfl⟩ | ⟨rfl, rfl⟩ | ⟨hst, rfl⟩
  · have hl : l = s.len + 1 ∨ (s.len = 0 ∧ b ≠ 0x9A ∧ l = s.len ∧ m = s.buf) := by
      rcases hlength with hfr | hl | ⟨h0, hb, -, hsame⟩
      · exact absurd hfr Bool.false_ne_true
      · exact .inl hl
      · exact .inr ⟨h0, hb, congrArg State.len hsame, congrArg State.buf hsame⟩
    rw [State.afterStep_incomplete]
    exact .consumed l hl
  · obtain rfl : l = s.len + 1 := by
      rcases hlength with hfr | hl | ⟨-, -, hst, -⟩
      · exact absurd hfr Bool.false_ne_true
      · exact hl
      · nomatch hst
    rw [State.afterStep_ok, State.completion_eq]
    exact .completed
  · have hafter := State.afterStep_framing_of_not_held (s := { s with buf := m }) hidle hst
    exact hafter ▸ .framing st acc hst

/-- The same of the reply as `Effect.feed` writes it. -/
theorem fsmReply_outcome (ck : Checksum) (b : Byte) {s : State} (hidle : s.feedHeld = false) :
    ∃ m, FedBytes s m ∧ FeedOutcome s b m ((fsmStep ck b s).state.afterStep (fsmStep ck b s).status,
      { status := (fsmStep ck b s).status, acc := (fsmStep ck b s).acc, data := 0 }) :=
  feed_step ck b hidle ▸ feed_outcome ck b hidle

/-- FEED is HELD with nothing changed, or has one of the three outcomes. -/
theorem exec_feed_cases (b : Byte) (s : State) :
    (s.feedHeld = true ∧ exec (.feed b) s = .next (s.record ⟨.held, false, 0⟩)) ∨
    (s.feedHeld = false ∧ ∃ m r, FedBytes s m ∧ FeedOutcome s b m r ∧ exec (.feed b) s = .next (r.1.record r.2)) := by
  by_cases h : s.feedHeld = true
  · exact .inl ⟨h, congrArg finish (feed_held Config.ck b h)⟩
  · have hidle : s.feedHeld = false := by simpa using h
    obtain ⟨m, hm, ho⟩ := feed_outcome Config.ck b hidle
    exact .inr ⟨hidle, m, _, hm, ho, rfl⟩

/-- A hunting instance consumes every byte with no event (R161, R200). -/
theorem fsmStep_of_hunting (ck : Checksum) (b : Byte) {s : State} (hl : s.len = 0) :
    (fsmStep ck b s).status = .incomplete ∧ (fsmStep ck b s).acc = true := by
  rw [fsmStep_of_len_eq_zero ck b hl, huntStep]
  split <;> exact ⟨rfl, rfl⟩

theorem exec_feed_of_hunting (b : Byte) {s : State} (hidle : s.feedHeld = false) (hl : s.len = 0) :
    ∃ t, exec (.feed b) s = .next t ∧ t.responses = s.responses ++ [⟨.incomplete, true, 0⟩] := by
  obtain ⟨hst, hacc⟩ := fsmStep_of_hunting Config.ck b hl
  have hframe := (fsmStep_shape Config.ck b s).frame
  refine ⟨_, exec_feed_of_step hidle rfl, ?_⟩
  rw [hst, hacc, State.record_responses, State.afterStep_incomplete, hframe]

end Sys2Proof.Machine

/-! ### The statements -/

namespace Sys2Proof.Proofs
open Sys2Proof Sys2Proof.Machine

/-- Settles O52: HELD with nothing changed, or one of the three outcomes, whose status is never HELD. -/
theorem feedHasOneOfFourOutcomes : Obligations.FeedHasOneOfFourOutcomes := by
  refine fun b => ⟨Laws.FieldsOfEncode.feed b, fun s => ?_⟩
  rw [← State.feedHeld_iff]
  rcases exec_feed_cases b s with ⟨hheld, hexec⟩ | ⟨hidle, m, r, ⟨-, hbytes⟩, houtcome, hexec⟩
  · exact ⟨_, _, hexec, rfl, fun _ _ => rfl, by simp [hheld], .inl ⟨rfl, rfl⟩⟩
  have hnot : s.feedHeld = true ↔ r.2.status = .held := by simp [hidle, houtcome.status_ne_held]
  cases houtcome with
  | consumed l hl => exact ⟨_, _, hexec, rfl, hbytes, hnot, .inr (.inl ⟨rfl, hl, rfl⟩)⟩
  | framing _ _ hst => exact ⟨_, _, hexec, rfl, hbytes, hnot, .inr (.inr (.inl ⟨hst, rfl⟩))⟩
  | completed => exact ⟨_, _, hexec, rfl, hbytes, hnot, .inr (.inr (.inr ⟨rfl, rfl⟩))⟩

/-- Settles O53: the refused byte left LEN at 0, where every byte is consumed; the hold of AUTO = 0 keeps FEED out
until CLR_HOLD. -/
theorem refusedByteIsConsumedWhenOfferedAgain : Obligations.RefusedByteIsConsumedWhenOfferedAgain := by
  intro b s t st hst hexec hresp
  have hanswer {u : State} {r : Response} (h : exec (.feed b) s = .next u) (hu : u.responses = s.responses ++ [r]) :
      t = u ∧ r = ⟨st, false, 0⟩ := by
    obtain rfl : t = u := Host.Outcome.next.inj (hexec.symm.trans h)
    exact ⟨rfl, List.singleton_inj.1 (List.append_cancel_left (hu.symm.trans hresp))⟩
  rcases exec_feed_cases b s with ⟨-, h⟩ | ⟨hidle, m, r, -, houtcome, h⟩
  · obtain ⟨-, heq⟩ := hanswer h rfl
    cases heq
    cases hst
  obtain ⟨ht, hc, -⟩ := s.feedHeld_eq_false_iff.1 hidle
  cases houtcome with
  | consumed =>
    obtain ⟨-, heq⟩ := hanswer h rfl
    nomatch heq
  | completed =>
    obtain ⟨-, heq⟩ := hanswer h rfl
    nomatch heq
  | framing st' acc _ =>
    obtain ⟨htu, -⟩ := hanswer h rfl
    have hlen : t.len = 0 := congrArg State.len htu
    have hclosed : t.txopen = false := (congrArg State.txopen htu).trans ht
    have hopen : t.completed = false := (congrArg State.completed htu).trans hc
    have hhold : t.hold = !s.ctrl.getLsbD 0 := congrArg State.hold htu
    refine ⟨fun hauto => ?_, fun hmanual => ⟨?_, ?_⟩⟩
    · rw [hauto] at hhold
      exact exec_feed_of_hunting b (t.feedHeld_eq_false_iff.2 ⟨hclosed, hopen, hhold⟩) hlen
    · rw [hmanual] at hhold
      exact congrArg finish (feed_held Config.ck b (t.feedHeld_iff.2 (.inr (.inr hhold))))
    · obtain ⟨v, hv, hvr⟩ := exec_feed_of_hunting b (s := t.releaseHold.record ⟨.ok, false, 0⟩)
        ((State.feedHeld_eq_false_iff _).2 ⟨hclosed, hopen, rfl⟩) hlen
      exact ⟨_, v, exec_clrHold t, hv, hvr⟩

end Sys2Proof.Proofs
end

section
/-! PROOFS. What else holds of every run, from the invariants and the effects of an instruction: the rules about
single registers (spec/10_state.md R31, R32, R35, R37; spec/42_command_packet.md R172), the phases (R42), EXPECT and
REMAIN (R38, R39), and the length rule of a completed telemetry packet (spec/43_telemetry_packet.md R215). -/

namespace Sys2Proof.Machine

/-! ### The register rules -/

/-- A change that keeps LASTFEED, TAG and SEQ. -/
theorem RegisterRules.of_frame {s t : State} (h : RegisterRules s) (hcfg : t.cfg = s.cfg)
    (hbuf : t.buf.wf s.cfg.capacity = true) (hstage : t.stage.wf s.cfg.capacity = true)
    (hlast : t.lastfeed = s.lastfeed) (htag : t.tag = s.tag) (hseq : t.seq = s.seq)
    (hpay : s.cfg.kind = .cmd → t.txopen = true → t.payloadLen < s.cfg.cmdMaxPayload) : RegisterRules t where
  canonical := by rw [hcfg]; exact ⟨hbuf, hstage⟩
  lastfeed := by rw [hlast]; exact h.lastfeed
  commandTag := by rw [hcfg, htag]; exact h.commandTag
  telemetrySeq := by rw [hcfg, hseq]; exact h.telemetrySeq
  commandPayload := by rw [hcfg]; exact hpay

/-- FEED opens no output packet, keeps SEQ, and on a command instance keeps TAG; it leaves its status in LASTFEED. -/
theorem RegisterRules.of_feedOutcome {s : State} {b : Byte} {m : Memory} {r : Reply} (h : RegisterRules s)
    (hidle : s.feedHeld = false) (hm : FedBytes s m) (ho : FeedOutcome s b m r) : RegisterRules r.1 := by
  obtain ⟨ht, -, -⟩ := s.feedHeld_eq_false_iff.1 hidle
  have hclosed {p : Prop} (hopen : s.txopen = true) : p := absurd (ht.symm.trans hopen) Bool.false_ne_true
  have hcanon := And.intro (hm.canonical h.canonical.1) h.canonical.2
  cases ho with
  | consumed => exact ⟨hcanon, .inr (.inl rfl), h.commandTag, h.telemetrySeq, fun _ => hclosed⟩
  | framing _ _ hst => exact ⟨hcanon, .inr (.inr hst), h.commandTag, h.telemetrySeq, fun _ => hclosed⟩
  | completed =>
    exact ⟨hcanon, .inl rfl, fun hk => (State.completionTag_cmd (s := { s with buf := m }) hk).trans (h.commandTag hk),
      h.telemetrySeq, fun _ => hclosed⟩

/-- Every effect of an instruction keeps the register rules. -/
theorem Effect.registerRules {s : State} {i : Instr} {r : Reply} (he : Effect s i r) (hv : s.cfg.valid = true)
    (h : RegisterRules s) : RegisterRules r.1 := by
  obtain ⟨hbuf, hstage⟩ := h.canonical
  obtain ⟨hM, -⟩ := (Config.valid_iff s.cfg).1 hv
  have other {p : Prop} (hk : s.cfg.kind = .tlm) (hk' : s.cfg.kind = .cmd) : p :=
    absurd (hk.symm.trans hk') (by decide)
  cases he with
  | kept => exact h
  | reset =>
    exact ⟨h.canonical, .inr (.inl rfl), h.commandTag, h.telemetrySeq, fun _ ht => absurd ht Bool.false_ne_true⟩
  | clrHold | wrCtrl | ackEv | clrErrcnt | getWord =>
    exact h.of_frame rfl hbuf hstage rfl rfl rfl h.commandPayload
  | feed b hidle =>
    obtain ⟨m, hm, ho⟩ := fsmReply_outcome Config.ck b hidle
    exact h.of_feedOutcome hidle hm ho
  | stageWrite => exact h.of_frame rfl hbuf (Memory.wf_store _ _ hstage) rfl rfl rfl h.commandPayload
  | writeByte | setTarget => exact h.of_frame rfl (Memory.wf_store _ _ hbuf) hstage rfl rfl rfl h.commandPayload
  | writeWord | setChecksum =>
    exact h.of_frame rfl (Memory.wf_store _ _ (Memory.wf_store _ _ hbuf)) hstage rfl rfl rfl h.commandPayload
  | finalize s' _ hl | send s' _ hl =>
    have hwf : s'.buf.wf s.cfg.capacity = true := by
      rcases finalizeLength_ok_iff.1 hl with ⟨-, rfl⟩ | ⟨-, -, rfl⟩
      · exact Memory.wf_store _ _ hbuf
      · exact Memory.wf_store _ _ (Memory.wf_store _ _ hbuf)
    obtain ⟨m, rfl⟩ : ∃ m, s' = { s with buf := m } := ⟨_, finalizeLength_frame hl⟩
    exact h.of_frame rfl (Memory.wf_store _ _ (Memory.wf_store _ _ hwf)) hstage rfl rfl rfl h.commandPayload
  | resetOutput hk =>
    refine ⟨⟨Memory.wf_storeBytes _ _ hbuf, hstage⟩, h.lastfeed, h.commandTag, fun hk' => other hk' hk,
      fun _ _ => ?_⟩
    exact (State.payloadLen_cmd (s := (Machine.resetOutput s).1) hk).trans_lt hM
  | addWord w hk ht hcap hmax =>
    refine h.of_frame rfl (Memory.wf_store _ _ (Memory.wf_store _ _ (Memory.wf_store _ _ hbuf))) hstage rfl rfl rfl
      fun _ _ => ?_
    have hlen := toNat_len_add hv hcap
    have hsplit : s.len.toNat + 2 - s.cfg.headerSize ≤ s.payloadLen + 2 := by
      unfold State.payloadLen
      omega
    exact (hlen ▸ hsplit).trans_lt hmax
  | checkBuffer =>
    exact h.of_frame rfl (Memory.wf_storeBytes _ _ hbuf) hstage rfl rfl rfl fun _ ht => absurd ht Bool.false_ne_true
  | create _ _ hk => exact h.of_frame rfl (Memory.wf_storeBytes _ _ hbuf) hstage rfl rfl rfl fun hk' => other hk hk'
  | appendByte _ _ hk =>
    exact h.of_frame rfl (Memory.wf_store _ _ (Memory.wf_store _ _ (Memory.wf_store _ _ hbuf))) hstage rfl rfl rfl
      fun hk' => other hk hk'
  | appendWord _ _ hk =>
    exact h.of_frame rfl
      (Memory.wf_store _ _ (Memory.wf_store _ _ (Memory.wf_store _ _ (Memory.wf_store _ _ hbuf)))) hstage rfl rfl rfl
      fun hk' => other hk hk'

/-- No instruction changes the configuration, the draw of the buffers, what the host presents next, or a recorded
response (R45, R276). -/
theorem Effect.frame {s : State} {i : Instr} {r : Reply} (he : Effect s i r) :
    r.1.cfg = s.cfg ∧ r.1.epoch = s.epoch ∧ r.1.pending = s.pending ∧ r.1.responses = s.responses := by
  cases he with
  | feed b hidle =>
    obtain ⟨m, -, ho⟩ := fsmReply_outcome Config.ck b hidle
    exact ho.frame
  | finalize s' _ hl | send s' _ hl =>
    obtain ⟨m, rfl⟩ : ∃ m, s' = { s with buf := m } := ⟨_, finalizeLength_frame hl⟩
    exact ⟨rfl, rfl, rfl, rfl⟩
  | _ => exact ⟨rfl, rfl, rfl, rfl⟩

/-- Power-on reset satisfies the register rules (R47). -/
theorem RegisterRules.powerOn (cfg : Config) (epoch : Nat) : RegisterRules (State.powerOn cfg epoch) :=
  ⟨⟨rfl, rfl⟩, .inr (.inl rfl), fun _ => rfl, fun _ => rfl, fun _ ht => absurd ht Bool.false_ne_true⟩

/-! ### The read cursor (R31) -/

/-- Every effect of an instruction keeps RIDX inside the declared payload. -/
theorem Effect.cursor {s : State} {i : Instr} {r : Reply} (he : Effect s i r) (h : Invariants Config.ck s)
    (hr : s.ridx.toNat ≤ s.declared / 2) : r.1.ridx.toNat ≤ r.1.declared / 2 := by
  have of_zero {t : State} (h0 : t.ridx = 0) : t.ridx.toNat ≤ t.declared / 2 :=
    (congrArg BitVec.toNat h0).trans_le (Nat.zero_le _)
  have of_open {t : State} (ht : s.txopen = true) (hsame : t.ridx = s.ridx) : t.ridx.toNat ≤ t.declared / 2 :=
    of_zero (hsame.trans (h.output_packet ht).2.2.2)
  cases he with
  | kept | clrHold | wrCtrl | ackEv | clrErrcnt | stageWrite => exact hr
  | reset | resetOutput | create | checkBuffer => exact of_zero rfl
  | feed b hidle =>
    obtain ⟨-, hc, -⟩ := s.feedHeld_eq_false_iff.1 hidle
    obtain ⟨m, -, ho⟩ := fsmReply_outcome Config.ck b hidle
    exact of_zero (ho.ridx_eq_zero (h.cursor hc))
  | getWord _ hle =>
    have hnext := State.toNat_ridx_add_one hle
    have hbound : s.ridx.toNat + 1 ≤ s.declared / 2 := by omega
    exact hnext.trans_le hbound
  | writeByte _ _ ht | writeWord _ _ ht | setTarget _ _ ht | addWord _ _ ht | appendByte _ _ _ ht
  | appendWord _ _ _ ht => exact of_open ht rfl
  | finalize s' ht hl | send s' ht hl =>
    obtain ⟨m, rfl⟩ : ∃ m, s' = { s with buf := m } := ⟨_, finalizeLength_frame hl⟩
    exact of_open ht rfl
  | setChecksum hp =>
    rcases s.packetPresent_iff.1 hp with ht | hc
    · exact of_open ht rfl
    · have hdecl : (s.sealChecksum Config.ck).declared = s.declared :=
        State.declared_congr rfl fun k _ => State.readBuf_sealChecksum_of_valid (h.done hc).checksum k
      exact hr.trans_eq (congrArg (· / 2) hdecl.symm)

/-! ### EXPECT (R38, R39) -/

/-- Under R46, LEN is at most EXPECT wherever EXPECT is not 0, and equal to it in a completed packet. -/
theorem Invariants.len_le_expect {ck : Checksum} {s : State} (h : Invariants ck s) (hne : s.expect ≠ 0) :
    s.len.toNat ≤ s.expect := by
  have ht : s.txopen = false := by
    by_contra hopen
    exact hne (by simp [State.expect, hopen])
  cases hc : s.completed with
  | true => exact (h.done hc).extent.le
  | false =>
    obtain ⟨-, hun⟩ := h.headerSoFar ht hc
    rw [State.expect_of_closed ht] at hne ⊢
    split at hne
    case isTrue hend =>
      rw [if_pos hend]
      exact (hun hend).le
    case isFalse => exact absurd rfl hne

/-! ### The phases (R42) -/

/-- Under R46, a packet of the header size or more that is received is below its extent. -/
theorem Invariants.len_lt_expect {ck : Checksum} {s : State} (h : Invariants ck s) (ht : s.txopen = false)
    (hc : s.completed = false) (hlen : s.cfg.headerSize ≤ s.len.toNat) : s.len.toNat < s.expect := by
  have hend : s.cfg.lengthEnd ≤ s.len.toNat := by
    have h6 := s.cfg.lengthEnd_le
    have h8 := s.cfg.eight_le_headerSize
    omega
  rw [State.expect_of_closed ht, if_pos hend]
  exact (h.headerSoFar ht hc).2 hend

/-- The states that no row of the table is about. -/
theorem State.expect_le_len_of_phase_eq_none {s : State} (h : s.phase = none) :
    s.txopen = false ∧ s.completed = false ∧ s.cfg.headerSize ≤ s.len.toNat ∧ s.expect ≤ s.len.toNat := by
  unfold State.phase at h
  split_ifs at h with ht hc _ _ _ hlt hexp
  exact ⟨by simpa using ht, by simpa using hc, Nat.le_of_not_lt hlt, Nat.le_of_not_lt hexp⟩

/-! ### The length rule of a telemetry packet (R206, R215) -/

/-- A telemetry packet that a FEED completes has a type with an entry, whose rule the declared length obeys. -/
theorem Invariants.lenOK_of_fed {ck : Checksum} {s : State} {b : Byte} (h : Invariants ck s)
    (hk : s.cfg.kind = .tlm) (hidle : s.feedHeld = false) {r : FsmStep} (hr : fsmStep ck b s = r)
    (hdone : (r.state.afterStep r.status).completed = true) :
    ∃ e, (r.state.afterStep r.status).schemaEntry = some e ∧
      e.lenOK ((r.state.afterStep r.status).readBufWord 4).toNat = true := by
  obtain ⟨ht, hc, -⟩ := s.feedHeld_eq_false_iff.1 hidle
  have hnot {p : Prop} (hdone : s.completed = true) : p := absurd (hc.symm.trans hdone) Bool.false_ne_true
  have hkind : StepKind ck s b r := hr ▸ fsmStep_kind ck b s
  cases hkind with
  | dropped => exact hnot hdone
  | refused _ _ st hst =>
    rw [refuseByte, State.afterStep_framing _ hst] at hdone
    exact hnot hdone
  | appended ha =>
    obtain ⟨hhead, hun⟩ := h.headerSoFar ht hc
    have hhead' : HeaderSoFar (s.append b) := hhead.append ha (hun.toNat_append_len b)
    by_cases hext : (s.append b).len.toNat = (s.append b).extent
    · by_cases hck : (s.append b).imageChecksum ck = (s.append b).storedChecksum
      · rw [bodyStep_of_valid hext hck, State.afterStep_ok]
        have h8 := (s.append b).eight_le_extent
        have hlength := hhead'.length hk (by omega)
        rw [State.declared_tlm (s := s.append b) hk] at hlength
        exact hlength
      · rw [bodyStep_of_invalid hext hck, State.afterStep_framing _ rfl] at hdone
        exact hnot hdone
    · rw [bodyStep_of_ne ck hext, State.afterStep_incomplete] at hdone
      exact hnot hdone

/-- A staged packet that VERIFY_BUFFER accepts has a type with an entry, whose rule the declared length obeys. -/
theorem lenOK_of_verifyBufferStatus {ck : Checksum} {n : Nat} {s : State} (h : verifyBufferStatus ck n s = .ok) :
    ∃ e, s.cfg.schemaAt (s.readStage 2) = some e ∧ e.lenOK (s.readStageWord 4).toNat = true := by
  unfold verifyBufferStatus at h
  split at h
  case isTrue => nomatch h
  split at h
  case isTrue => nomatch h
  split at h
  case h_1 => nomatch h
  case h_2 e he =>
    split at h
    case isTrue => nomatch h
    case isFalse hok => exact ⟨e, he, by simpa using hok⟩

end Sys2Proof.Machine

namespace Sys2Proof

/-- What the length rule says for each form of a type (R206). -/
theorem SchemaEntry.lenOK_forms {e : SchemaEntry} {l : Nat} (h : e.lenOK l = true) :
    (e.isVar = false → l = e.len) ∧ (e.isVar = true → l ≤ e.len) := by
  rcases (e.lenOK_iff l).1 h with ⟨hfixed, heq⟩ | ⟨hvar, hle⟩
  · exact ⟨fun _ => heq, fun hvar => absurd (hfixed.symm.trans hvar) Bool.false_ne_true⟩
  · exact ⟨fun hfixed => absurd (hfixed.symm.trans hvar) Bool.false_ne_true, fun _ => hle⟩

end Sys2Proof

/-! ### The statements -/

namespace Sys2Proof.Proofs
open Sys2Proof Sys2Proof.Machine

/-- Settles O12: power-on reset leaves a state that hunts, with empty buffers. -/
theorem powerOnSatisfiesTheInvariants : Obligations.PowerOnSatisfiesTheInvariants := by
  have hinv (ck : Checksum) (cfg : Config) (epoch : Nat) : Invariants ck (State.powerOn cfg epoch) :=
    .of_hunting rfl rfl rfl rfl
  exact ⟨fun ck cfg epoch _ => ⟨hinv ck cfg epoch, .powerOn cfg epoch⟩, hinv _ _ 0, .powerOn _ 0⟩

/-- Settles O14: nothing, RST, or a request, each of whose effects keeps the rules. -/
theorem stepKeepsTheRegisterRules : Obligations.StepKeepsTheRegisterRules := by
  intro s t h hstep
  have hrest (rest : List HostEvent) : RegisterRules { s with pending := rest } :=
    h.of_frame rfl h.canonical.1 h.canonical.2 rfl rfl rfl h.commandPayload
  have recorded {u : State} (hu : RegisterRules u) (r : Response) : RegisterRules (u.record r) :=
    hu.of_frame rfl hu.canonical.1 hu.canonical.2 rfl rfl rfl hu.commandPayload
  obtain ⟨hv, ⟨-, rfl⟩ | ⟨rest, -, rfl⟩ | ⟨w, rest, i, -, -, hexec⟩ | ⟨w, rest, e, -, -, rfl⟩⟩ := step_cases hstep
  · exact ⟨h, rfl⟩
  · have hon := RegisterRules.powerOn s.cfg (s.epoch + 1)
    exact ⟨hon.of_frame rfl rfl rfl rfl rfl rfl fun _ ht => absurd ht Bool.false_ne_true, rfl⟩
  · obtain ⟨r, he, rfl⟩ := exec_next hexec
    obtain ⟨hcfg, -⟩ := he.frame
    exact ⟨recorded (he.registerRules hv (hrest rest)) r.2, hcfg⟩
  · exact ⟨recorded (hrest rest) _, rfl⟩

/-- Settles O15: only GET_WORD moves the cursor, and only over two bytes that are left. -/
theorem cursorStaysInsideThePayload : Obligations.CursorStaysInsideThePayload := by
  intro s t h hr hstep
  obtain ⟨-, ⟨-, rfl⟩ | ⟨rest, -, rfl⟩ | ⟨w, rest, i, -, -, hexec⟩ | ⟨w, rest, e, -, -, rfl⟩⟩ := step_cases hstep
  · exact hr
  · exact Nat.zero_le _
  · obtain ⟨r, he, rfl⟩ := exec_next hexec
    exact he.cursor (h.withPending rest) hr
  · exact hr

/-- Settles O16: the rows of the table in their order; where none of the first six holds, LEN has reached the header
size, and the invariants keep it below EXPECT. -/
theorem phaseIsTotal : Obligations.PhaseIsTotal := by
  refine ⟨fun s => ⟨fun ht => ?_, fun ht hc => ?_, fun ht hc hh => ?_, fun ht hc hh =>
    ⟨fun h0 => ?_, fun h1 => ?_, fun h2 hlt => ?_, fun hle hlt => ?_⟩⟩, fun ck s h => ?_⟩
  · simp [State.phase, ht]
  · simp [State.phase, ht, hc]
  · simp [State.phase, ht, hc, hh]
  · simp [State.phase, ht, hc, hh, h0]
  · simp [State.phase, ht, hc, hh, h1]
  · simp [State.phase, ht, hc, hh, hlt, show s.len.toNat ≠ 0 by omega, show s.len.toNat ≠ 1 by omega]
  · have h8 := s.cfg.eight_le_headerSize
    simp [State.phase, ht, hc, hh, hlt, Nat.not_lt_of_le hle, show s.len.toNat ≠ 0 by omega,
      show s.len.toNat ≠ 1 by omega]
  · refine Option.ne_none_iff_exists'.1 fun hnone => ?_
    obtain ⟨ht, hc, hlen, hexp⟩ := State.expect_le_len_of_phase_eq_none hnone
    exact absurd (h.len_lt_expect ht hc hlen) (Nat.not_lt_of_le hexp)

/-- Settles O23: EXPECT and REMAIN by their definitions; under R46 the difference is never cut. -/
theorem expectAndRemainAreDerived : Obligations.ExpectAndRemainAreDerived := by
  refine ⟨fun s => ⟨fun ht => ?_, fun ht hk => ?_, fun ht hk => ?_, fun h0 => ?_, fun hne => ?_⟩,
    fun ck s h => ⟨fun hne => ?_, fun hc => ?_⟩⟩
  · simp [State.expect, ht]
  · rw [State.expect_of_closed ht, Config.lengthEnd_cmd hk, State.extent_cmd hk]
  · rw [State.expect_of_closed ht, Config.lengthEnd_tlm hk, State.extent_tlm hk, State.readBufWord]
  · exact if_neg (not_not_intro h0)
  · exact if_pos hne
  · rw [State.remain, if_pos hne, Nat.add_sub_cancel' (h.len_le_expect hne)]
  · rw [State.remain, (h.done hc).extent, Nat.sub_self, ite_self]

/-- Settles O58: a packet completes with the header that FEED has checked; and VERIFY_BUFFER makes the same check of
the length on STAGE. -/
theorem telemetryLengthIsEnforced : Obligations.TelemetryLengthIsEnforced := by
  refine ⟨fun b s t hk h hc hexec hdone => ?_, fun n s t hk hexec hresp => ?_⟩
  · rcases exec_feed_cases b s with ⟨-, hheld⟩ | ⟨hidle, -⟩
    · obtain rfl : t = _ := Host.Outcome.next.inj (hexec.symm.trans hheld)
      exact absurd (hc.symm.trans hdone) Bool.false_ne_true
    · obtain rfl : t = _ := Host.Outcome.next.inj (hexec.symm.trans (exec_feed_of_step hidle rfl))
      obtain ⟨e, he, hok⟩ := h.lenOK_of_fed (b := b) hk hidle rfl hdone
      exact ⟨e, he, SchemaEntry.lenOK_forms hok⟩
  · obtain rfl : t = _ := Host.Outcome.next.inj (hexec.symm.trans (exec_verifyBuffer n hk))
    have hst : verifyBufferStatus Config.ck n.toNat s = .ok :=
      congrArg Response.status (List.singleton_inj.1 (List.append_cancel_left hresp))
    obtain ⟨e, he, hok⟩ := lenOK_of_verifyBufferStatus hst
    exact ⟨e, he, SchemaEntry.lenOK_forms hok⟩

end Sys2Proof.Proofs
end

section
/-! PROOFS. One transaction (spec/60_exceptions.md R262, R266, R276; spec/30_encoding.md R81, R82): what a step takes
from the port, the one response of a request and its word, and the control operations whose answer is fixed
(spec/44_control.md R240, R241, R243, R245, R246). -/

namespace Sys2Proof.Machine

/-! ### The step (R276, R291) -/

theorem step_of_decode_ok {s : State} {w : PortWord} {rest : List HostEvent} {i : Instr} (hv : s.cfg.valid = true)
    (hp : s.pending = .request w :: rest) (hd : decode w = .ok i) : step s = exec i { s with pending := rest } := by
  simp only [step, takeInput, hv, hp, hd, if_true]

/-! ### The response of an instruction (R276) -/

/-- An instruction answers with exactly one response, and nothing of the host's side changes. -/
theorem exec_answers (i : Instr) (s : State) :
    ∃ t r, exec i s = .next t ∧ t.responses = s.responses ++ [r] ∧
      t.pending = s.pending ∧ t.cfg = s.cfg ∧ t.epoch = s.epoch := by
  obtain ⟨r, hexec, he⟩ := exec_effect i s
  obtain ⟨hcfg, hepoch, hpending, hresponses⟩ := he.frame
  exact ⟨_, r.2, hexec, congrArg (· ++ [r.2]) hresponses, hpending, hcfg, hepoch⟩

/-- The response that an instruction has added to the record is the one of its effect. -/
theorem exec_response {i : Instr} {s t : State} {r : Response} (h : exec i s = .next t)
    (hr : t.responses = s.responses ++ [r]) : ∃ u, Effect s i (u, r) ∧ t = u.record r := by
  obtain ⟨⟨u, r'⟩, he, rfl⟩ := exec_next h
  obtain ⟨-, -, -, hresponses⟩ := he.frame
  have happend : s.responses ++ [r'] = s.responses ++ [r] := by rw [← hr, ← hresponses]; rfl
  obtain rfl : r' = r := List.singleton_inj.1 (List.append_cancel_left happend)
  exact ⟨u, he, rfl⟩

/-- ACC is 1 only in the response to a FEED, which has DATA 0 (R81). -/
theorem Effect.acc {s : State} {i : Instr} {r : Reply} (he : Effect s i r) (hacc : r.2.acc = true) :
    (∃ b, i = .feed b) ∧ r.2.data = 0 := by
  cases he with
  | feed b => exact ⟨⟨b, rfl⟩, rfl⟩
  | _ => nomatch hacc

/-- An effect without status OK, other than of a FEED that was accepted, leaves the state (R262). -/
theorem Effect.state_eq_of_error {s : State} {i : Instr} {r : Reply} (he : Effect s i r) (hst : r.2.status ≠ .ok)
    (hfeed : (∃ b, i = .feed b) → r.2.status = .held) : r.1 = s := by
  cases he with
  | kept => rfl
  | feed b hidle =>
    have hheld := hfeed ⟨b, rfl⟩
    obtain ⟨m, -, ho⟩ := fsmReply_outcome Config.ck b hidle
    exact absurd hheld ho.status_ne_held
  | _ => exact absurd rfl hst

/-! ### The response word (R81) -/

/-- Each field of the response word at its place. -/
theorem Response.fields_word (r : Response) :
    r.word.extractLsb' 0 4 = r.status.code ∧ r.word.getLsbD 4 = r.acc ∧ r.word.extractLsb' 5 27 = 0 ∧
      r.word.extractLsb' 32 32 = r.data := by
  unfold Response.word
  refine ⟨BitVec.extractLsb'_append_eq_right, ?_, ?_, ?_⟩
  · rw [BitVec.getLsbD_append, BitVec.getLsbD_append]
    simp
  · rw [BitVec.extractLsb'_append_eq_of_le (by decide), BitVec.extractLsb'_append_eq_of_le (by decide)]
    exact BitVec.extractLsb'_append_eq_right
  · iterate 3 rw [BitVec.extractLsb'_append_eq_of_le (by decide)]
    exact BitVec.extractLsb'_eq_self

end Sys2Proof.Machine

/-! ### The statements -/

namespace Sys2Proof.Proofs
open Sys2Proof Sys2Proof.Machine

/-- Settles O7: a valid configuration with a word at the port that decodes. -/
theorem stepRunsDecodedRequest : Obligations.StepRunsDecodedRequest :=
  fun _ _ _ _ => step_of_decode_ok

/-- Settles O8: the other two inputs of the port, and the configuration that is refused. -/
theorem stepWithoutRequest : Obligations.StepWithoutRequest := by
  refine ⟨fun s hv hp => ?_, fun s rest hv hp => ?_, fun s hv => ?_⟩
  · simp only [step, takeInput, hv, hp, if_true]
  · simp only [step, takeInput, hv, hp, if_true, State.applyRst]
  · simp only [step, hv, Bool.false_eq_true, if_false]

/-- Settles O10: a request that decodes has the instruction's one response, and another has BAD_COMMAND. -/
theorem everyRequestGetsOneResponse : Obligations.EveryRequestGetsOneResponse := by
  refine ⟨exec_answers, fun s w rest hv hp => ?_⟩
  cases hd : decode w with
  | error e => exact ⟨_, _, step_of_decode_error hv hp hd, rfl, rfl⟩
  | ok i =>
    obtain ⟨t, r, hexec, hr, hpending, -⟩ := exec_answers i { s with pending := rest }
    exact ⟨t, r, (step_of_decode_ok hv hp hd).trans hexec, hr, hpending⟩

/-- Settles O11: the codes, the fields of the word, and the only effect with ACC = 1. -/
theorem responseWordAndAcc : Obligations.ResponseWordAndAcc := by
  refine ⟨⟨rfl, rfl, rfl, rfl, rfl, rfl, rfl, rfl, rfl, rfl, rfl, rfl, rfl⟩, Response.fields_word,
    fun i s t r hexec hr hacc => ?_⟩
  obtain ⟨u, he, -⟩ := exec_response hexec hr
  exact he.acc hacc

/-- Settles O54: the only effect with an error status that changes the state is of an accepted FEED. -/
theorem errorStatusesChangeNothing : Obligations.ErrorStatusesChangeNothing := by
  intro i s t r hexec hr hst hfeed
  obtain ⟨u, he, rfl⟩ := exec_response hexec hr
  exact congrArg (·.record r) (he.state_eq_of_error hst hfeed)

/-- Settles O55: each of the seven instructions answers from fields that a recorded response does not touch. -/
theorem readOnlyOperationsAreIdempotent : Obligations.ReadOnlyOperationsAreIdempotent := by
  refine ⟨?_, fun n s t r hexec hr hst => ?_⟩
  · rintro i s (rfl | ⟨r, rfl⟩ | ⟨o, rfl⟩ | ⟨o, rfl⟩ | rfl | rfl | ⟨n, rfl⟩)
    · exact ⟨_, rfl, rfl⟩
    · cases h : s.register r.toNat with
      | none => exact ⟨_, exec_rdReg_of_none h, exec_rdReg_of_none (s := s.record _) h⟩
      | some v => exact ⟨_, exec_rdReg_of_some h, exec_rdReg_of_some (s := s.record _) h⟩
    · rcases Nat.lt_or_ge s.cfg.capacity (o.toNat + 1) with h | h
      · exact ⟨_, exec_readByte_of_lt h, exec_readByte_of_lt (s := s.record _) h⟩
      · exact ⟨_, exec_readByte_of_le h, exec_readByte_of_le (s := s.record _) h⟩
    · rcases Nat.lt_or_ge s.cfg.capacity (o.toNat + 2) with h | h
      · exact ⟨_, exec_readWord_of_lt h, exec_readWord_of_lt (s := s.record _) h⟩
      · exact ⟨_, exec_readWord_of_le h, exec_readWord_of_le (s := s.record _) h⟩
    · obtain ⟨r, hfirst, hagain, -⟩ := peekWordChangesNothing.2 s
      exact ⟨r, hfirst, hagain⟩
    · cases h : s.packetPresent with
      | false => exact ⟨_, exec_verifyChecksum_of_absent h, exec_verifyChecksum_of_absent (s := s.record _) h⟩
      | true => exact ⟨_, exec_verifyChecksum_of_present h, exec_verifyChecksum_of_present (s := s.record _) h⟩
    · cases hk : s.cfg.kind with
      | cmd =>
        have h : (Instr.verifyBuffer n).definedFor s.cfg.kind = false := by rw [hk]; rfl
        exact ⟨_, exec_of_not_definedFor h, exec_of_not_definedFor (s := s.record _) h⟩
      | tlm => exact ⟨_, exec_verifyBuffer n hk, exec_verifyBuffer (s := s.record _) n hk⟩
  · exact errorStatusesChangeNothing _ s t r hexec hr hst (fun ⟨b, hb⟩ => nomatch hb)

/-- Settles O17: NOP's reply is the state as it is. -/
theorem nopAnswersOk : Obligations.NopAnswersOk := ⟨by decide, fun _ => rfl⟩

/-- Settles O18: the packet state is cleared, so the phase is HUNT; BUF is not touched. -/
theorem softResetClearsThePacket : Obligations.SoftResetClearsThePacket :=
  ⟨Laws.FieldsOfEncode.reset, fun _ => ⟨_, rfl, rfl, State.phase_eq_hunt rfl rfl rfl rfl, fun _ => rfl⟩⟩

/-- Settles O20: IRQ reads the enables from the CTRL just written. -/
theorem wrCtrlWritesCtrl : Obligations.WrCtrlWritesCtrl :=
  fun v => ⟨Laws.FieldsOfEncode.wrCtrl v, fun _ => ⟨_, rfl, rfl, rfl⟩⟩

/-- Settles O21: EV is ANDed with the negated mask; the full mask leaves no event. -/
theorem ackEvClearsEventBits : Obligations.AckEvClearsEventBits := by
  refine fun m => ⟨Laws.FieldsOfEncode.ackEv m, fun s => ⟨_, rfl, rfl, fun k hk => ?_, fun hm => ?_⟩⟩
  · simp [hk]
  · refine State.irq_eq_false_of_ev_eq_zero ?_
    subst hm
    exact BitVec.and_zero

/-- Settles O22: ERRCNT alone is written. -/
theorem clrErrcntClearsTheCounter : Obligations.ClrErrcntClearsTheCounter :=
  ⟨Laws.FieldsOfEncode.clrErrcnt, fun _ => rfl⟩

/-- Settles O25: IRQ is a function of EV and CTRL. -/
theorem irqIsALevelOfEventsAndEnables : Obligations.IrqIsALevelOfEventsAndEnables := by
  refine ⟨fun s => by simp [State.irq], fun s t _ hne => ?_⟩
  by_contra hsame
  simp only [not_or, not_not] at hsame
  obtain ⟨hev, hctrl⟩ := hsame
  exact hne (by rw [State.irq, State.irq, hev, hctrl])

end Sys2Proof.Proofs
end

section
/-! PROOFS. Which instruction writes what (spec/10_state.md R23 to R37, spec/20_memory.md R70,
spec/42_command_packet.md R174, spec/60_exceptions.md R265): every next state as an update of the fields an
instruction can touch, then for each piece of the state the instructions that can change it. -/

namespace Sys2Proof.Machine

/-- The states an instruction can lead to from `s`, the response aside: which fields it writes, and the value of those
that its rule gives. -/
inductive Change (s : State) : Instr → State → Prop where
  | kept (i : Instr) : Change s i s
  | reset : Change s .reset s.softReset
  | clrHold : Change s .clrHold s.releaseHold
  | wrCtrl (v : BitVec 3) : Change s (.wrCtrl v) { s with ctrl := v }
  | ackEv (m : BitVec 2) : Change s (.ackEv m) { s with ev := s.ev &&& ~~~m }
  | clrErrcnt : Change s .clrErrcnt { s with errcnt := 0 }
  /-- FEED, a byte consumed without an event -/
  | consumed (b : Byte) (m : Memory) (l : BitVec 17) :
      Change s (.feed b) { s with buf := m, len := l, lastfeed := .incomplete }
  /-- FEED, a framing error -/
  | framing (b : Byte) (m : Memory) (st : Status) (hst : st.isFraming = true) (hh : s.hold = false) :
      Change s (.feed b) { s with buf := m, len := 0, lastfeed := st, errcnt := s.errcnt + 1, ev := s.ev ||| 2,
                                  hold := !s.ctrl.getLsbD 0 }
  /-- FEED, a completion -/
  | completed (b : Byte) (m : Memory) (tag : DWord) :
      Change s (.feed b) { s with buf := m, len := s.len + 1, lastfeed := .ok, completed := true, ridx := 0,
                                  ev := s.ev ||| 1, tag := tag }
  | getWord : Change s .getWord { s with ridx := s.ridx + 1 }
  | stageWrite (o : DWord) (v : Byte) (m : Memory) : Change s (.stageWrite o v) { s with stage := m }
  /-- the checksum stored -/
  | sealed (i : Instr) (m : Memory) (hi : i = .setChecksum ∨ i = .finalize) :
      Change s i { s with buf := m, altered := false }
  /-- the checksum stored and the packet emitted -/
  | send (m : Memory) (x : List Byte) : Change s .send { s with buf := m, altered := false, txout := s.txout ++ x }
  /-- bytes of an output packet overwritten -/
  | written (i : Instr) (m : Memory)
      (hi : (∃ d, i = .setTarget d) ∨ (∃ o v, i = .writeByte o v) ∨ ∃ o w, i = .writeWord o w) :
      Change s i { s with buf := m, altered := true }
  /-- bytes appended to an output packet -/
  | appended (i : Instr) (m : Memory) (l : BitVec 17)
      (hi : (∃ w, i = .addWord w) ∨ (∃ v, i = .appendByte v) ∨ ∃ w, i = .appendWord w) :
      Change s i { s with buf := m, len := l, altered := true }
  | resetOutput (m : Memory) :
      Change s .resetOutput { s with buf := m, len := 8, txopen := true, completed := false, hold := false, ridx := 0,
                                     altered := true, seq := s.seq + 1 }
  | create (t : Byte) (m : Memory) :
      Change s (.create t) { s with buf := m, len := 16, txopen := true, completed := false, hold := false, ridx := 0,
                                    altered := true }
  | checkBuffer (n : DWord) (m : Memory) (l : BitVec 17) :
      Change s (.checkBuffer n) { s with buf := m, len := l, completed := true, txopen := false, hold := false,
                                         ridx := 0, altered := false, ev := s.ev ||| 1 }

/-- The three outcomes of a FEED that is not held. -/
theorem FeedOutcome.change {s : State} {b : Byte} {m : Memory} {r : Reply} (ho : FeedOutcome s b m r)
    (hh : s.hold = false) : Change s (.feed b) r.1 := by
  cases ho with
  | consumed l => exact .consumed b m l
  | framing st _ hst => exact .framing b m st hst hh
  | completed => exact .completed b m _

/-- Every effect is one of these changes. -/
theorem Effect.change {s : State} {i : Instr} {r : Reply} (he : Effect s i r) : Change s i r.1 := by
  cases he with
  | kept => exact .kept i
  | reset => exact .reset
  | clrHold => exact .clrHold
  | wrCtrl v => exact .wrCtrl v
  | ackEv m => exact .ackEv m
  | clrErrcnt => exact .clrErrcnt
  | feed b hidle =>
    obtain ⟨-, -, hh⟩ := s.feedHeld_eq_false_iff.1 hidle
    obtain ⟨m, -, ho⟩ := fsmReply_outcome Config.ck b hidle
    exact ho.change hh
  | getWord => exact .getWord
  | writeByte o v => exact .written _ _ (.inr (.inl ⟨o, v, rfl⟩))
  | writeWord o w => exact .written _ _ (.inr (.inr ⟨o, w, rfl⟩))
  | setTarget d => exact .written _ _ (.inl ⟨d, rfl⟩)
  | stageWrite o v => exact .stageWrite o v _
  | setChecksum => exact .sealed _ _ (.inl rfl)
  | finalize s' _ hl =>
    obtain ⟨m, rfl⟩ : ∃ m, s' = { s with buf := m } := ⟨_, finalizeLength_frame hl⟩
    exact .sealed _ _ (.inr rfl)
  | send s' _ hl =>
    obtain ⟨m, rfl⟩ : ∃ m, s' = { s with buf := m } := ⟨_, finalizeLength_frame hl⟩
    exact .send _ _
  | resetOutput => exact .resetOutput _
  | addWord w => exact .appended _ _ _ (.inl ⟨w, rfl⟩)
  | appendByte v => exact .appended _ _ _ (.inr (.inl ⟨v, rfl⟩))
  | appendWord w => exact .appended _ _ _ (.inr (.inr ⟨w, rfl⟩))
  | create t => exact .create t _
  | checkBuffer n => exact .checkBuffer n _ _

/-! ### The writers of each piece of the state -/

/-- An event bit that is 0 stays 0 under a mask. -/
theorem getLsbD_and_of_left {x : BitVec 2} (m : BitVec 2) {k : Nat} (h : x.getLsbD k = false) :
    (x &&& m).getLsbD k = false := by
  rw [BitVec.getLsbD_and, h, Bool.false_and]

section
variable {s t : State} {i : Instr} (h : Change s i t)
include h

theorem Change.buf_writer {k : Nat} (hne : t.readBuf k ≠ s.readBuf k) :
    (∃ b, i = .feed b) ∨ (∃ n, i = .checkBuffer n) ∨ i = .resetOutput ∨ (∃ d, i = .setTarget d) ∨
      (∃ w, i = .addWord w) ∨ (∃ ty, i = .create ty) ∨ (∃ v, i = .appendByte v) ∨ (∃ w, i = .appendWord w) ∨
      (∃ o v, i = .writeByte o v) ∨ (∃ o w, i = .writeWord o w) ∨ i = .setChecksum ∨ i = .finalize ∨ i = .send := by
  cases h with
  | consumed | framing | completed | send | resetOutput | create | checkBuffer => simp
  | sealed _ _ hi => rcases hi with rfl | rfl <;> simp
  | written _ _ hi => rcases hi with ⟨d, rfl⟩ | ⟨o, v, rfl⟩ | ⟨o, w, rfl⟩ <;> simp
  | appended _ _ _ hi => rcases hi with ⟨w, rfl⟩ | ⟨v, rfl⟩ | ⟨w, rfl⟩ <;> simp
  | _ => exact absurd rfl hne

theorem Change.stage_writer {k : Nat} (hne : t.readStage k ≠ s.readStage k) : ∃ o v, i = .stageWrite o v := by
  cases h with
  | stageWrite o v => exact ⟨o, v, rfl⟩
  | _ => exact absurd rfl hne

theorem Change.errcnt_writer (hne : t.errcnt ≠ s.errcnt) :
    i = .clrErrcnt ∨ ((∃ b, i = .feed b) ∧ t.lastfeed.isFraming = true) := by
  cases h with
  | clrErrcnt => exact .inl rfl
  | framing b _ _ hst => exact .inr ⟨⟨b, rfl⟩, hst⟩
  | _ => exact absurd rfl hne

theorem Change.seq_writer (hne : t.seq ≠ s.seq) : i = .resetOutput := by
  cases h with
  | resetOutput => rfl
  | _ => exact absurd rfl hne

theorem Change.tag_writer (hne : t.tag ≠ s.tag) : ∃ b, i = .feed b := by
  cases h with
  | completed b => exact ⟨b, rfl⟩
  | _ => exact absurd rfl hne

theorem Change.ctrl_writer (hne : t.ctrl ≠ s.ctrl) : ∃ v, i = .wrCtrl v := by
  cases h with
  | wrCtrl v => exact ⟨v, rfl⟩
  | _ => exact absurd rfl hne

theorem Change.txout_writer (hne : t.txout ≠ s.txout) : i = .send := by
  cases h with
  | send => rfl
  | _ => exact absurd rfl hne

theorem Change.ev_done_setter (hs : s.ev.getLsbD 0 = false) (ht : t.ev.getLsbD 0 = true) :
    (∃ b, i = .feed b) ∨ ∃ n, i = .checkBuffer n := by
  cases h with
  | consumed b | framing b | completed b => exact .inl ⟨b, rfl⟩
  | checkBuffer n => exact .inr ⟨n, rfl⟩
  | ackEv m => exact absurd ((getLsbD_and_of_left _ hs).symm.trans ht) Bool.false_ne_true
  | _ => exact absurd (hs.symm.trans ht) Bool.false_ne_true

theorem Change.ev_err_setter (hs : s.ev.getLsbD 1 = false) (ht : t.ev.getLsbD 1 = true) : ∃ b, i = .feed b := by
  cases h with
  | consumed b | framing b | completed b => exact ⟨b, rfl⟩
  | ackEv m => exact absurd ((getLsbD_and_of_left _ hs).symm.trans ht) Bool.false_ne_true
  | checkBuffer =>
    rw [BitVec.getLsbD_or, hs] at ht
    nomatch ht
  | _ => exact absurd (hs.symm.trans ht) Bool.false_ne_true

theorem Change.ev_clearer {k : Nat} (hs : s.ev.getLsbD k = true) (ht : t.ev.getLsbD k = false) :
    ∃ m, i = .ackEv m := by
  cases h with
  | ackEv m => exact ⟨m, rfl⟩
  | framing | completed | checkBuffer => simp [hs] at ht
  | _ => exact absurd (ht.symm.trans hs) Bool.false_ne_true

theorem Change.len_writer (hne : t.len ≠ s.len) :
    (∃ b, i = .feed b) ∨ i = .reset ∨ (∃ n, i = .checkBuffer n) ∨ i = .resetOutput ∨ (∃ w, i = .addWord w) ∨
      (∃ ty, i = .create ty) ∨ (∃ v, i = .appendByte v) ∨ ∃ w, i = .appendWord w := by
  cases h with
  | consumed | framing | completed | reset | resetOutput | create | checkBuffer => simp
  | appended _ _ _ hi => rcases hi with ⟨w, rfl⟩ | ⟨v, rfl⟩ | ⟨w, rfl⟩ <;> simp
  | _ => exact absurd rfl hne

theorem Change.ridx_writer (hne : t.ridx ≠ s.ridx) :
    i = .getWord ∨ i = .reset ∨ (∃ b, i = .feed b) ∨ (∃ n, i = .checkBuffer n) ∨ i = .resetOutput ∨
      ∃ ty, i = .create ty := by
  cases h with
  | getWord | reset | completed | resetOutput | create | checkBuffer => simp
  | _ => exact absurd rfl hne

theorem Change.lastfeed_writer (hne : t.lastfeed ≠ s.lastfeed) : (∃ b, i = .feed b) ∨ i = .reset := by
  cases h with
  | consumed b | framing b | completed b => exact .inl ⟨b, rfl⟩
  | reset => exact .inr rfl
  | _ => exact absurd rfl hne

theorem Change.completed_setter (hs : s.completed = false) (ht : t.completed = true) :
    (∃ b, i = .feed b) ∨ ∃ n, i = .checkBuffer n := by
  cases h with
  | completed b => exact .inl ⟨b, rfl⟩
  | checkBuffer n => exact .inr ⟨n, rfl⟩
  | reset | resetOutput | create => nomatch ht
  | _ => exact absurd (hs.symm.trans ht) Bool.false_ne_true

theorem Change.completed_clearer (hs : s.completed = true) (ht : t.completed = false) :
    i = .reset ∨ i = .resetOutput ∨ ∃ ty, i = .create ty := by
  cases h with
  | reset | resetOutput | create => simp
  | completed | checkBuffer => nomatch ht
  | _ => exact absurd (ht.symm.trans hs) Bool.false_ne_true

theorem Change.hold_setter (hs : s.hold = false) (ht : t.hold = true) :
    (∃ b, i = .feed b) ∧ t.lastfeed.isFraming = true ∧ s.ctrl.getLsbD 0 = false := by
  cases h with
  | framing b _ _ hst => exact ⟨⟨b, rfl⟩, hst, by simpa using ht⟩
  | reset | clrHold | resetOutput | create | checkBuffer => nomatch ht
  | _ => exact absurd (hs.symm.trans ht) Bool.false_ne_true

theorem Change.hold_clearer (hs : s.hold = true) (ht : t.hold = false) :
    i = .clrHold ∨ i = .reset ∨ i = .resetOutput ∨ (∃ ty, i = .create ty) ∨ ∃ n, i = .checkBuffer n := by
  cases h with
  | reset | clrHold | resetOutput | create | checkBuffer => simp
  | framing _ _ _ _ hh => exact absurd (hh.symm.trans hs) Bool.false_ne_true
  | _ => exact absurd (ht.symm.trans hs) Bool.false_ne_true

theorem Change.txopen_setter (hs : s.txopen = false) (ht : t.txopen = true) :
    i = .resetOutput ∨ ∃ ty, i = .create ty := by
  cases h with
  | resetOutput | create => simp
  | reset | checkBuffer => nomatch ht
  | _ => exact absurd (hs.symm.trans ht) Bool.false_ne_true

theorem Change.txopen_clearer (hs : s.txopen = true) (ht : t.txopen = false) :
    i = .reset ∨ ∃ n, i = .checkBuffer n := by
  cases h with
  | reset | checkBuffer => simp
  | resetOutput | create => nomatch ht
  | _ => exact absurd (ht.symm.trans hs) Bool.false_ne_true

theorem Change.altered_setter (hs : s.altered = false) (ht : t.altered = true) :
    i = .resetOutput ∨ (∃ ty, i = .create ty) ∨ (∃ d, i = .setTarget d) ∨ (∃ w, i = .addWord w) ∨
      (∃ v, i = .appendByte v) ∨ (∃ w, i = .appendWord w) ∨ (∃ o v, i = .writeByte o v) ∨
      ∃ o w, i = .writeWord o w := by
  cases h with
  | resetOutput | create => simp
  | written _ _ hi => rcases hi with ⟨d, rfl⟩ | ⟨o, v, rfl⟩ | ⟨o, w, rfl⟩ <;> simp
  | appended _ _ _ hi => rcases hi with ⟨w, rfl⟩ | ⟨v, rfl⟩ | ⟨w, rfl⟩ <;> simp
  | reset | checkBuffer | sealed | send => nomatch ht
  | _ => exact absurd (hs.symm.trans ht) Bool.false_ne_true

theorem Change.altered_clearer (hs : s.altered = true) (ht : t.altered = false) :
    i = .setChecksum ∨ i = .finalize ∨ i = .send ∨ i = .reset ∨ ∃ n, i = .checkBuffer n := by
  cases h with
  | reset | checkBuffer | send => simp
  | sealed _ _ hi => exact hi.imp_right .inl
  | resetOutput | create | written | appended => nomatch ht
  | _ => exact absurd (ht.symm.trans hs) Bool.false_ne_true

end

end Sys2Proof.Machine

/-! ### The statement -/

namespace Sys2Proof.Proofs
open Sys2Proof Sys2Proof.Machine

/-- Settles O56: the writers of each piece of the state, from the change that the instruction's effect is. -/
theorem onlyTheListedOperationsWrite : Obligations.OnlyTheListedOperationsWrite := by
  intro i s t hexec
  obtain ⟨r, he, rfl⟩ := exec_next hexec
  have h : Change s i r.1 := he.change
  exact ⟨fun ⟨_, hne⟩ => h.buf_writer hne, fun ⟨_, hne⟩ => h.stage_writer hne, h.errcnt_writer, h.seq_writer,
    h.tag_writer, h.ctrl_writer, h.txout_writer, h.ev_done_setter, h.ev_err_setter, fun _ _ => h.ev_clearer,
    h.len_writer, h.ridx_writer, h.lastfeed_writer, h.completed_setter, h.completed_clearer, h.hold_setter,
    h.hold_clearer, h.txopen_setter, h.txopen_clearer, h.altered_setter, h.altered_clearer⟩

end Sys2Proof.Proofs
end

section
/-! PROOFS. APPEND_WORD, and what FINALIZE and SEND leave (spec/43_telemetry_packet.md R211, R212, R214;
spec/42_command_packet.md R173, R174; spec/40_checksum.md R127): the length field, then the checksum of the packet so
changed, so that neither the old field nor the old checksum matters to the bytes that are emitted. -/

namespace Sys2Proof.Machine

/-! ### APPEND_WORD (R211) -/

theorem exec_appendWord {s : State} (w : Word) (hk : s.cfg.kind = .tlm) :
    exec (.appendWord w) s = finish (appendChecked 2 s (s.appendWord w)) :=
  congrArg finish (onlyFor_self _ hk)

/-- BUF with a word appended at LEN. -/
theorem State.readBuf_appendWord (s : State) (w : Word) (k : Nat) :
    (s.appendWord w).readBuf k =
      if k = s.len.toNat + 1 ∧ s.len.toNat + 1 < s.cfg.capacity then hi16 w
      else if k = s.len.toNat ∧ s.len.toNat < s.cfg.capacity then lo16 w else s.readBuf k :=
  s.readBuf_setBufWord s.len.toNat k w

/-! ### The length part of FINALIZE (R173, R212) -/

theorem finalizeLength_fields {s s' : State} (hl : finalizeLength s = .ok s') :
    s'.cfg = s.cfg ∧ s'.len = s.len ∧ s'.txopen = s.txopen ∧ s'.txout = s.txout := by
  obtain ⟨m, rfl⟩ : ∃ m, s' = { s with buf := m } := ⟨_, finalizeLength_frame hl⟩
  exact ⟨rfl, rfl, rfl, rfl⟩

/-- A refusal has an error status. -/
theorem ne_ok_of_finalizeLength_error {s : State} {st : Status} (hl : finalizeLength s = .error st) : st ≠ .ok := by
  obtain ⟨-, ⟨-, rfl⟩ | ⟨e, -, -, rfl⟩⟩ := finalizeLength_error_iff.1 hl <;> decide

/-! ### FINALIZE and SEND under each of their checks (R173, R174) -/

section
variable (ck : Checksum) {s : State}

theorem finalize_of_closed (ht : s.txopen = false) : finalize ck s = s.reply .noPacket := by
  simp [finalize, ht]

theorem send_of_closed (ht : s.txopen = false) : send ck s = s.reply .noPacket := by
  simp [send, ht]

variable (ht : s.txopen = true)
include ht

theorem finalize_of_error {st : Status} (hl : finalizeLength s = .error st) : finalize ck s = s.reply st := by
  simp [finalize, finalizeBody, ht, hl, Except.map]

theorem send_of_error {st : Status} (hl : finalizeLength s = .error st) : send ck s = s.reply st := by
  simp [send, finalizeBody, ht, hl, Except.map]

variable {s' : State} (hl : finalizeLength s = .ok s')
include hl

theorem finalize_of_ok :
    finalize ck s = (s'.sealChecksum ck).reply .ok ((s'.imageChecksum ck).setWidth 32) := by
  simp [finalize, finalizeBody, ht, hl, Except.map]

theorem send_of_ok :
    send ck s = { s'.sealChecksum ck with
      txout := s'.txout ++ (s'.sealChecksum ck).bufPrefix s'.len.toNat }.reply .ok (s'.len.setWidth 32) := by
  simp [send, finalizeBody, ht, hl, Except.map]

end

/-- What FINALIZE leaves where it answers OK: the checksum of the packet in BUF, over the length field rewritten. -/
theorem exec_finalize_of_ok {s s' : State} (ht : s.txopen = true) (hl : finalizeLength s = .ok s') :
    ∃ t c, exec .finalize s = .next t ∧ c = ckz Config.ck (t.bufPrefix s.len.toNat) ∧ t.readBuf 6 = lo16 c ∧
      t.readBuf 7 = hi16 c ∧ (∀ k, k ≠ 6 → k ≠ 7 → t.readBuf k = s'.readBuf k) ∧
      t = { s with buf := t.buf, altered := false, responses := s.responses ++ [⟨.ok, false, c.setWidth 32⟩] } := by
  obtain ⟨-, hlen, -⟩ := finalizeLength_fields hl
  have hread := State.readBuf_sealChecksum Config.ck s'
  refine ⟨_, s'.imageChecksum Config.ck, congrArg finish (finalize_of_ok Config.ck ht hl), ?_, hread 6, hread 7,
    fun k h6 h7 => ?_, ?_⟩
  · rw [← State.imageChecksum_sealChecksum, State.imageChecksum, State.sealChecksum_len, hlen]
    rfl
  · exact (hread k).trans ((if_neg h7).trans (if_neg h6))
  · obtain ⟨m, rfl⟩ : ∃ m, s' = { s with buf := m } := ⟨_, finalizeLength_frame hl⟩
    rfl

/-! ### The bytes SEND emits (R174, R214) -/

/-- The bytes of BUF that SEND rewrites before it emits them: the length field and the checksum. -/
def Rewritten (kind : Kind) (k : Nat) : Prop :=
  match kind with
  | .cmd => k = 3 ∨ k = 6 ∨ k = 7
  | .tlm => k = 4 ∨ k = 5 ∨ k = 6 ∨ k = 7

theorem rewritten_of_checksum (kind : Kind) {k : Nat} (h : k = 6 ∨ k = 7) : Rewritten kind k := by
  unfold Rewritten
  cases kind <;> dsimp only <;> omega

/-- Two states in which SEND sees the same output packet, but for the bytes it rewrites. -/
structure SameToSend (s t : State) : Prop where
  cfg : t.cfg = s.cfg
  len : t.len = s.len
  txopen : t.txopen = s.txopen
  txout : t.txout = s.txout
  bytes : ∀ k, ¬Rewritten s.cfg.kind k → t.readBuf k = s.readBuf k

theorem SameToSend.refl (s : State) : SameToSend s s := ⟨rfl, rfl, rfl, rfl, fun _ _ => rfl⟩

/-- Storing a word in the checksum field. -/
theorem SameToSend.of_setBufWord {s t : State} (h : SameToSend s t) (c : Word) : SameToSend s (t.setBufWord 6 c) := by
  refine ⟨h.cfg, h.len, h.txopen, h.txout, fun k hk => ?_⟩
  have h6 : k ≠ 6 := fun h6 => hk (rewritten_of_checksum _ (.inl h6))
  have h7 : k ≠ 6 + 1 := fun h7 => hk (rewritten_of_checksum _ (.inr h7))
  rw [State.readBuf_setBufWord, if_neg (mt And.left h7), if_neg (mt And.left h6), h.bytes k hk]

theorem SameToSend.of_finalizeLength {s s' : State} (hl : finalizeLength s = .ok s') : SameToSend s s' := by
  obtain ⟨hcfg, hlen, htxopen, htxout⟩ := finalizeLength_fields hl
  refine ⟨hcfg, hlen, htxopen, htxout, fun k hk => ?_⟩
  rw [readBuf_finalizeLength hl]
  unfold Rewritten at hk
  cases hkind : s.cfg.kind <;> rw [hkind] at hk <;> dsimp only at hk ⊢
  · rw [if_neg (by omega)]
  · rw [if_neg (by omega), if_neg (by omega)]

section
variable {s t : State} (h : SameToSend s t)
include h

theorem SameToSend.payloadLen : t.payloadLen = s.payloadLen := by
  rw [State.payloadLen, State.payloadLen, h.cfg, h.len]

/-- The type byte is not rewritten. -/
theorem SameToSend.schemaEntry : t.schemaEntry = s.schemaEntry := by
  have h2 : t.readBuf 2 = s.readBuf 2 := h.bytes 2 (by cases hk : s.cfg.kind <;> simp [Rewritten])
  rw [State.schemaEntry, State.schemaEntry, h.cfg, h2]

theorem SameToSend.finalizeLength_error {st : Status} (hl : finalizeLength s = .error st) :
    finalizeLength t = .error st := by
  rw [finalizeLength_error_iff] at hl ⊢
  rwa [h.cfg, h.schemaEntry, h.payloadLen]

/-- The length part of FINALIZE makes the two packets equal but for the checksum. -/
theorem SameToSend.finalizeLength_ok {s' : State} (hl : finalizeLength s = .ok s') :
    ∃ t', finalizeLength t = .ok t' ∧ t'.len = s'.len ∧ t'.txout = s'.txout ∧
      ∀ k, k ≠ 6 → k ≠ 7 → t'.readBuf k = s'.readBuf k := by
  obtain ⟨t', hl'⟩ : ∃ t', finalizeLength t = .ok t' := by
    rcases finalizeLength_ok_iff.1 hl with ⟨hk, -⟩ | ⟨hk, hentry, -⟩
    · exact ⟨_, finalizeLength_ok_iff.2 (.inl ⟨h.cfg ▸ hk, rfl⟩)⟩
    · rw [← h.schemaEntry, ← h.payloadLen] at hentry
      exact ⟨_, finalizeLength_ok_iff.2 (.inr ⟨h.cfg ▸ hk, hentry, rfl⟩)⟩
  have hs := SameToSend.of_finalizeLength hl
  have ht := SameToSend.of_finalizeLength hl'
  refine ⟨t', hl', (ht.len.trans h.len).trans hs.len.symm, (ht.txout.trans h.txout).trans hs.txout.symm,
    fun k h6 h7 => ?_⟩
  rw [readBuf_finalizeLength hl, readBuf_finalizeLength hl', h.cfg, h.payloadLen]
  have hbytes := h.bytes k
  unfold Rewritten at hbytes
  cases hk : s.cfg.kind <;> rw [hk] at hbytes <;> dsimp only at hbytes ⊢
  · split
    · rfl
    · exact hbytes (by omega)
  · split
    · rfl
    · split
      · rfl
      · exact hbytes (by omega)

/-- The checksum part makes them equal (R123). -/
theorem SameToSend.send_txout (ck : Checksum) : (send ck t).1.txout = (send ck s).1.txout := by
  rcases send_cases ck s with ⟨ht, hs⟩ | ⟨ht, st, hl, hs⟩ | ⟨ht, s', hl, hs⟩
  · rw [hs, send_of_closed ck (h.txopen.trans ht)]
    exact h.txout
  · rw [hs, send_of_error ck (h.txopen.trans ht) (h.finalizeLength_error hl)]
    exact h.txout
  · obtain ⟨t', hl', hlen, htxout, hbytes⟩ := h.finalizeLength_ok hl
    have hck : t'.imageChecksum ck = s'.imageChecksum ck :=
      State.imageChecksum_congr ck hlen fun k _ => hbytes k
    have hemit : (t'.sealChecksum ck).bufPrefix s'.len.toNat = (s'.sealChecksum ck).bufPrefix s'.len.toNat := by
      refine State.bufPrefix_congr fun k _ => ?_
      rw [State.readBuf_sealChecksum, State.readBuf_sealChecksum, hck]
      by_cases h7 : k = 7
      · simp [h7]
      · by_cases h6 : k = 6
        · simp [h6]
        · simp [h6, h7, hbytes k h6 h7]
    rw [hs, send_of_ok ck (h.txopen.trans ht) hl']
    simp only [State.reply_fst, hlen, htxout, hemit]

end

/-! ### The checksum after SET_CHECKSUM, FINALIZE and SEND (R127) -/

/-- Where one of the three answers OK, it leaves a packet whose stored checksum is right. -/
theorem checksum_of_sealing {ck : Checksum} {s t : State} {op : Checksum → State → Reply} {d : DWord}
    (hop : op = setChecksum ∨ op = finalize ∨ op = send) (h : op ck s = (t, ⟨.ok, false, d⟩)) :
    t.packetPresent = true ∧ t.imageChecksum ck = t.storedChecksum ∧ t.cfg = s.cfg := by
  have hsealed (u : State) : (u.sealChecksum ck).imageChecksum ck = (u.sealChecksum ck).storedChecksum := by
    rw [State.imageChecksum_sealChecksum, State.storedChecksum_sealChecksum]
  have hrefused {st : Status} (hl : finalizeLength s = .error st) (hr : s.reply st = (t, ⟨.ok, false, d⟩)) : False :=
    ne_ok_of_finalizeLength_error hl (congrArg (·.2.status) hr)
  rcases hop with rfl | rfl | rfl
  · rcases setChecksum_cases ck s with ⟨-, hr⟩ | ⟨hp, hr⟩
    · nomatch hr.symm.trans h
    · obtain ⟨rfl, -⟩ := Prod.mk.inj (hr.symm.trans h)
      exact ⟨hp, hsealed s, rfl⟩
  · rcases finalize_cases ck s with ⟨-, hr⟩ | ⟨-, st, hl, hr⟩ | ⟨ht, s', hl, hr⟩
    · nomatch hr.symm.trans h
    · exact (hrefused hl (hr.symm.trans h)).elim
    · obtain ⟨rfl, -⟩ := Prod.mk.inj (hr.symm.trans h)
      obtain ⟨hcfg, -, htxopen, -⟩ := finalizeLength_fields hl
      exact ⟨(State.packetPresent_iff _).2 (.inl (htxopen.trans ht)), hsealed s', hcfg⟩
  · rcases send_cases ck s with ⟨-, hr⟩ | ⟨-, st, hl, hr⟩ | ⟨ht, s', hl, hr⟩
    · nomatch hr.symm.trans h
    · exact (hrefused hl (hr.symm.trans h)).elim
    · obtain ⟨rfl, -⟩ := Prod.mk.inj (hr.symm.trans h)
      obtain ⟨hcfg, -, htxopen, -⟩ := finalizeLength_fields hl
      exact ⟨(State.packetPresent_iff _).2 (.inl (htxopen.trans ht)), hsealed s', hcfg⟩

theorem verifyChecksum_of_valid {ck : Checksum} {s : State} (hp : s.packetPresent = true)
    (hck : s.imageChecksum ck = s.storedChecksum) :
    verifyChecksum ck s = s.reply .ok ((s.imageChecksum ck).setWidth 32) := by
  simp [verifyChecksum, hp, hck]

theorem verifyChecksum_of_invalid {ck : Checksum} {s : State} (hp : s.packetPresent = true)
    (hck : s.imageChecksum ck ≠ s.storedChecksum) :
    (verifyChecksum ck s).1 = s ∧ (verifyChecksum ck s).2.status = .crcError := by
  simp [verifyChecksum, hp, hck]

/-- The packet image after one byte of BUF is written. -/
theorem State.bufPrefix_setBuf {s : State} {i : Nat} (v : Byte) (n : Nat) (hi : i < s.cfg.capacity) :
    (s.setBuf i v).bufPrefix n = (s.bufPrefix n).set i v := by
  apply List.ext_getElem
  · simp
  · intro k h1 h2
    rw [State.getElem_bufPrefix, List.getElem_set, State.readBuf_setBuf]
    by_cases hk : i = k
    · rw [if_pos hk, if_pos ⟨hk.symm, hi⟩]
    · rw [if_neg hk, if_neg (fun h => hk h.1.symm), State.getElem_bufPrefix]

/-- With one payload bit of a right packet inverted the stored checksum is wrong, by R122. -/
theorem checksum_ne_of_flip {ck : Checksum} {t : State} {i k : Nat} (hck : t.imageChecksum ck = t.storedChecksum)
    (hdetects : DetectsPayloadFlip ck t.cfg.headerSize) (hi : t.cfg.headerSize ≤ i) (hlen : i < t.len.toNat)
    (hcap : i < t.cfg.capacity) (hk : k < 8) :
    (t.setBuf i (t.readBuf i ^^^ BitVec.twoPow 8 k)).imageChecksum ck ≠
      (t.setBuf i (t.readBuf i ^^^ BitVec.twoPow 8 k)).storedChecksum := by
  have h8 := t.cfg.eight_le_headerSize
  have hstored : (t.setBuf i (t.readBuf i ^^^ BitVec.twoPow 8 k)).storedChecksum = t.storedChecksum := by
    rw [State.storedChecksum, State.readBufWord, State.readBuf_setBuf, State.readBuf_setBuf, if_neg (by omega),
      if_neg (by omega)]
    rfl
  have himage := hdetects (t.bufPrefix t.len.toNat) i k hi (by simpa using hlen) hk
    (hck.trans (t.storedChecksum_eq_getD (by omega)))
  rw [State.getD_bufPrefix hlen, ← t.storedChecksum_eq_getD (by omega)] at himage
  rw [hstored, State.imageChecksum, State.setBuf_len, State.bufPrefix_setBuf _ _ hcap]
  exact himage

end Sys2Proof.Machine

/-! ### The statements -/

namespace Sys2Proof.Proofs
open Sys2Proof Sys2Proof.Machine

/-- Settles O44: as APPEND_BYTE, with two bytes. -/
theorem appendWordAppendsUpToTheLength : Obligations.AppendWordAppendsUpToTheLength := by
  refine fun w => ⟨Laws.FieldsOfEncode.appendWord w, fun s hk hv => ?_⟩
  have hpay := State.payloadLen_tlm hk
  rw [exec_appendWord w hk]
  refine ⟨fun ht => congrArg finish (appendChecked_of_closed _ _ ht),
    fun ht hnone => congrArg finish (appendChecked_of_none _ _ ht hnone), fun e ht h16 he =>
    ⟨fun hlt => congrArg finish (appendChecked_of_lt _ ht he (hpay ▸ hlt)), fun hle => ?_⟩⟩
  obtain ⟨-, -, hmax, -⟩ := (Config.valid_iff s.cfg).1 hv
  have hschema := Config.schemaAt_len_le hv he
  have hcap := Config.capacity_tlm hk
  have hlen : (s.appendWord w).len.toNat = s.len.toNat + 2 := toNat_len_add (k := 2) hv (by omega)
  have hdecl : (s.appendWord w).payloadLen = s.len.toNat + 2 - 16 :=
    (State.payloadLen_tlm (s := s.appendWord w) hk).trans (congrArg (· - 16) hlen)
  refine ⟨_, congrArg finish (appendChecked_of_le _ ht he hk hv (hpay ▸ hle)), ?_, ?_, hlen, ?_,
    fun k hlo hhi h4 h5 => ?_, rfl⟩
  · rw [State.reply_fst, State.readBuf_record, State.readBuf_lengthFollowed, if_neg (by omega), if_neg (by omega),
      State.readBuf_appendWord, if_neg (by omega), if_pos ⟨rfl, by omega⟩, lo16]
  · rw [State.reply_fst, State.readBuf_record, State.readBuf_lengthFollowed, if_neg (by omega), if_neg (by omega),
      State.readBuf_appendWord, if_pos ⟨rfl, by omega⟩, hi16]
  · calc ((s.appendWord w).lengthFollowed.readBufWord 4).toNat
        = (BitVec.ofNat 16 (s.appendWord w).payloadLen).toNat := by rw [State.readBufWord_lengthFollowed]
      _ = (s.appendWord w).payloadLen := by rw [BitVec.toNat_ofNat]; exact Nat.mod_eq_of_lt (by omega)
      _ = (s.appendWord w).len.toNat - 16 := State.payloadLen_tlm (s := s.appendWord w) hk
  · rw [State.reply_fst, State.readBuf_record, State.readBuf_lengthFollowed, if_neg h5, if_neg h4,
      State.readBuf_appendWord, if_neg (mt And.left hhi), if_neg (mt And.left hlo)]

/-- Settles O39: the two refusals of the length part; else the length field holds the payload length, which fits it,
and the checksum is of the packet so changed. -/
theorem finalizeRewritesLengthAndChecksum : Obligations.FinalizeRewritesLengthAndChecksum := by
  refine ⟨Laws.FieldsOfEncode.finalize, fun s => ⟨fun ht => ?_, fun ht hk h8 hlt => ?_, fun ht hk hnone => ?_,
    fun e ht hk h16 hcap hv he => ⟨fun hbad => ?_, fun hok => ?_⟩⟩⟩
  · exact congrArg finish (finalize_of_closed Config.ck ht)
  · have hpay := State.payloadLen_cmd hk
    have hl := finalizeLength_ok_iff.2 (.inl ⟨hk, rfl⟩)
    obtain ⟨t, c, hexec, hc, h6, h7, hbytes, hframe⟩ := exec_finalize_of_ok ht hl
    have hread := readBuf_finalizeLength hl
    simp only [hk] at hread
    refine ⟨t, c, hexec, hc, ?_, h6, h7, fun k hk3 hk6 hk7 => ?_, hframe⟩
    · rw [hbytes 3 (by decide) (by decide), hread, if_pos rfl, BitVec.toNat_ofNat, Nat.mod_eq_of_lt (by omega), hpay]
    · rw [hbytes k hk6 hk7, hread, if_neg hk3]
  · exact congrArg finish (finalize_of_error Config.ck ht (finalizeLength_error_iff.2 ⟨hk, .inl ⟨hnone, rfl⟩⟩))
  · rw [← State.payloadLen_tlm hk] at hbad
    exact congrArg finish
      (finalize_of_error Config.ck ht (finalizeLength_error_iff.2 ⟨hk, .inr ⟨e, he, hbad, rfl⟩⟩))
  · have hpay := State.payloadLen_tlm hk
    have hmax := Config.capacity_lt hv
    have hl := finalizeLength_ok_iff.2 (.inr ⟨hk, ⟨e, he, hpay ▸ hok⟩, rfl⟩)
    obtain ⟨t, c, hexec, hc, h6, h7, hbytes, hframe⟩ := exec_finalize_of_ok ht hl
    have hread := readBuf_finalizeLength hl
    simp only [hk] at hread
    refine ⟨t, c, hexec, hc, ?_, h6, h7, fun k hk4 hk5 hk6 hk7 => ?_, hframe⟩
    · rw [hbytes 4 (by decide) (by decide), hbytes 5 (by decide) (by decide), hread, hread, if_neg (by decide),
        if_pos rfl, if_pos rfl, le16_lo16_hi16, BitVec.toNat_ofNat, Nat.mod_eq_of_lt (by omega), hpay]
    · rw [hbytes k hk6 hk7, hread, if_neg hk5, if_neg hk4]

/-- Settles O40: SEND and FINALIZE make the same checks, and FINALIZE's length part refuses no command packet. -/
theorem sendFinalizesAndEmits : Obligations.SendFinalizesAndEmits := by
  refine ⟨Laws.FieldsOfEncode.send, fun s => ?_⟩
  rcases finalize_cases Config.ck s with ⟨ht, hf⟩ | ⟨ht, st, hl, hf⟩ | ⟨ht, s', hl, hf⟩
  · have hnot {p : Prop} (hopen : s.txopen = true) : p := absurd (ht.symm.trans hopen) Bool.false_ne_true
    exact ⟨_, _, congrArg finish hf, rfl, fun _ => ⟨congrArg finish (send_of_closed Config.ck ht), rfl⟩,
      fun h => (nomatch h), fun _ => rfl, hnot, hnot⟩
  · have hne := ne_ok_of_finalizeLength_error hl
    refine ⟨_, _, congrArg finish hf, rfl, fun _ => ⟨congrArg finish (send_of_error Config.ck ht hl), rfl⟩,
      fun h => absurd h hne, fun h => absurd (h.symm.trans ht) Bool.false_ne_true, fun _ hk => ?_,
      fun _ hk ⟨e, he, hok⟩ => ?_⟩
    · obtain ⟨hk', -⟩ := finalizeLength_error_iff.1 hl
      nomatch hk.symm.trans hk'
    · obtain ⟨-, ⟨hnone, -⟩ | ⟨e', he', hbad, -⟩⟩ := finalizeLength_error_iff.1 hl
      · nomatch hnone.symm.trans he
      · obtain rfl : e = e' := Option.some.inj (he.symm.trans he')
        rw [State.payloadLen_tlm hk, hok] at hbad
        nomatch hbad
  · obtain ⟨m, rfl⟩ : ∃ m, s' = { s with buf := m } := ⟨_, finalizeLength_frame hl⟩
    exact ⟨_, _, congrArg finish hf, rfl, fun h => absurd rfl h,
      fun _ => congrArg finish (send_of_ok Config.ck ht hl), fun h => absurd (h.symm.trans ht) Bool.false_ne_true,
      fun _ _ => rfl, fun _ _ _ => rfl⟩

/-- Settles O57: the operation run before SEND leaves the same packet to send, and so does a change of ALTERED and of
bytes 6 and 7. -/
theorem lazyAndEagerChecksumsAgree : Obligations.LazyAndEagerChecksumsAgree := by
  intro s i hi
  have hsame : ∃ t, exec i s = .next t ∧ SameToSend s t := by
    rcases hi with rfl | rfl
    · rcases setChecksum_cases Config.ck s with ⟨-, hr⟩ | ⟨-, hr⟩
      · exact ⟨_, congrArg finish hr, ⟨rfl, rfl, rfl, rfl, fun _ _ => rfl⟩⟩
      · have h := (SameToSend.refl s).of_setBufWord (s.imageChecksum Config.ck)
        exact ⟨_, congrArg finish hr, ⟨rfl, rfl, rfl, rfl, h.bytes⟩⟩
    · rcases finalize_cases Config.ck s with ⟨-, hr⟩ | ⟨-, st, -, hr⟩ | ⟨-, s', hl, hr⟩
      · exact ⟨_, congrArg finish hr, ⟨rfl, rfl, rfl, rfl, fun _ _ => rfl⟩⟩
      · exact ⟨_, congrArg finish hr, ⟨rfl, rfl, rfl, rfl, fun _ _ => rfl⟩⟩
      · have h := (SameToSend.of_finalizeLength hl).of_setBufWord (s'.imageChecksum Config.ck)
        exact ⟨_, congrArg finish hr, ⟨h.cfg, h.len, h.txopen, h.txout, h.bytes⟩⟩
  obtain ⟨t, hexec, h⟩ := hsame
  refine ⟨t, _, _, hexec, rfl, rfl, h.send_txout Config.ck, fun a c => ⟨_, rfl, ?_⟩⟩
  have hc := (SameToSend.refl s).of_setBufWord c
  exact SameToSend.send_txout (s := s) (t := { s.setBufWord 6 c with altered := a })
    ⟨rfl, rfl, rfl, rfl, hc.bytes⟩ Config.ck

/-- Settles O35: the three operations leave a right checksum, and the byte that WRITE_BYTE inverts is no part of the
stored one. -/
theorem checksumInvariantHolds : Obligations.ChecksumInvariantHolds := by
  refine ⟨fun s => ⟨rfl, rfl, rfl, rfl⟩, fun ck s t op d hop h => ?_⟩
  obtain ⟨hp, hck, hcfg⟩ := checksum_of_sealing hop h
  rw [verifyChecksum_of_valid hp hck]
  refine ⟨rfl, rfl, fun hdetects i k ht hi hlen hcap hk hv => ?_⟩
  have hoff : (BitVec.ofNat 32 i).toNat = i := by
    have hmax := Config.capacity_lt hv
    rw [BitVec.toNat_ofNat]
    exact Nat.mod_eq_of_lt (by omega)
  generalize BitVec.ofNat 32 i = off at hoff ⊢
  subst hoff
  have hbad := checksum_ne_of_flip hck (hcfg ▸ hdetects) (hcfg ▸ hi) hlen hcap hk
  exact ⟨_, congrArg finish (State.writeAt_of_le _ ht hcap),
    verifyChecksum_of_invalid ((State.packetPresent_iff _).2 (.inl ht)) hbad⟩

end Sys2Proof.Proofs
end

section
/-! PROOFS. Split reads of the host procedures (spec/44_control.md R250, R251; spec/42_command_packet.md R175): each
procedure, freed of its fuel, is a recursion over the input bytes, because a byte is offered at most twice (R166); so
a call on two inputs in a row is a call on the first and, where that took all of it, one on the second. -/

namespace Sys2Proof.Machine

/-! ### One FEED of a host procedure -/

/-- What a host procedure sees of one FEED: HELD, or one of the three outcomes. -/
theorem offer_cases (ck : Checksum) (b : Byte) (s : State) :
    (s.feedHeld = true ∧ offer ck b s = (s.record ⟨.held, false, 0⟩, ⟨.held, false, 0⟩)) ∨
    (s.feedHeld = false ∧ ∃ m r, FeedOutcome s b m r ∧ offer ck b s = (r.1.record r.2, r.2)) := by
  by_cases h : s.feedHeld = true
  · refine .inl ⟨h, ?_⟩
    simp only [offer, feed_held ck b h, State.reply_fst, State.reply_snd]
  · have hidle : s.feedHeld = false := by simpa using h
    obtain ⟨m, -, ho⟩ := feed_outcome ck b hidle
    exact .inr ⟨hidle, m, _, ho, rfl⟩

/-- INCOMPLETE consumes the byte; a byte not consumed was refused or held; HELD consumes nothing. -/
theorem offer_acc (ck : Checksum) (b : Byte) (s : State) :
    ((offer ck b s).2.status = .incomplete → (offer ck b s).2.acc = true) ∧
    ((offer ck b s).2.acc = false → (offer ck b s).2.status = .held ∨ (offer ck b s).2.status.isFraming = true) ∧
    ((offer ck b s).2.status = .held → (offer ck b s).2.acc = false) := by
  rcases offer_cases ck b s with ⟨-, h⟩ | ⟨-, m, r, ho, h⟩ <;> rw [h]
  · exact ⟨fun h => (nomatch h), fun _ => .inl rfl, fun _ => rfl⟩
  · cases ho with
    | consumed | completed => exact ⟨fun _ => rfl, fun h => (nomatch h), fun h => (nomatch h)⟩
    | framing st acc hst =>
      refine ⟨fun h => ?_, fun _ => .inr hst, fun h => ?_⟩ <;>
      · obtain rfl : st = _ := h
        nomatch hst

/-- A hunting instance takes the byte. -/
theorem offer_of_hunting (ck : Checksum) (b : Byte) {s : State} (hidle : s.feedHeld = false) (hl : s.len = 0) :
    (offer ck b s).2 = ⟨.incomplete, true, 0⟩ := by
  obtain ⟨hst, hacc⟩ := fsmStep_of_hunting ck b hl
  simp only [offer, feed_step ck b hidle, hst, hacc]

/-- After a framing error, and CLR_HOLD where AUTO is 0, the instance hunts (R166, R167). -/
theorem hunting_of_framing {ck : Checksum} {b : Byte} {s : State} (hst : (offer ck b s).2.status.isFraming = true) :
    (clearHoldIfManual (offer ck b s).1).feedHeld = false ∧ (clearHoldIfManual (offer ck b s).1).len = 0 := by
  rcases offer_cases ck b s with ⟨-, h⟩ | ⟨hidle, m, r, ho, h⟩ <;> rw [h] at hst ⊢
  · nomatch hst
  obtain ⟨ht, hc, -⟩ := s.feedHeld_eq_false_iff.1 hidle
  cases ho with
  | consumed | completed => nomatch hst
  | framing st acc =>
    unfold clearHoldIfManual
    split
    case isTrue hauto => exact ⟨(State.feedHeld_eq_false_iff _).2 ⟨ht, hc, congrArg Bool.not hauto⟩, rfl⟩
    case isFalse => exact ⟨(State.feedHeld_eq_false_iff _).2 ⟨ht, hc, rfl⟩, rfl⟩

/-! ### PROCESS_BUFFER as a recursion over its input (R250) -/

/-- The same run, `n` bytes further in the input. -/
def BufferRun.shift (r : BufferRun) (n : Nat) : BufferRun := { r with consumed := n + r.consumed }

/-- The count of consumed bytes is only carried along. -/
theorem processBufferLoop_shift (ck : Checksum) (fuel : Nat) (xs : List Byte) (i : Nat) (s : State) :
    processBufferLoop ck fuel xs i s = (processBufferLoop ck fuel xs 0 s).shift i := by
  induction fuel generalizing xs i s with
  | zero => rfl
  | succ fuel ih =>
    cases xs with
    | nil => rfl
    | cons b rest =>
      simp only [processBufferLoop]
      by_cases hst : (offer ck b s).2.status = .incomplete
      · have hacc := (offer_acc ck b s).1 hst
        simp only [hst, hacc, if_true]
        rw [ih _ (i + 1), ih _ (0 + 1)]
        simp only [BufferRun.shift, BufferRun.mk.injEq, true_and]
        omega
      · simp only [hst, if_false]
        split <;> simp [BufferRun.shift]

theorem processBuffer_nil (ck : Checksum) (s : State) : processBuffer ck [] s = ⟨s, .incomplete, 0⟩ := rfl

/-- A byte that is INCOMPLETE is consumed, and the rest of the input has its own bound of FEEDs left. -/
theorem processBuffer_cons_of_incomplete {ck : Checksum} {b : Byte} {s : State} (rest : List Byte)
    (h : (offer ck b s).2.status = .incomplete) :
    processBuffer ck (b :: rest) s = (processBuffer ck rest (offer ck b s).1).shift 1 := by
  have hacc := (offer_acc ck b s).1 h
  simp only [processBuffer, List.length_cons, processBufferLoop, h, hacc, advance, if_true]
  exact processBufferLoop_shift ck _ rest 1 _

theorem processBuffer_cons_of_ne {ck : Checksum} {b : Byte} {s : State} (rest : List Byte)
    (h : (offer ck b s).2.status ≠ .incomplete) :
    processBuffer ck (b :: rest) s =
      ⟨(offer ck b s).1, (offer ck b s).2.status, if (offer ck b s).2.acc then 1 else 0⟩ := by
  simp only [processBuffer, List.length_cons, processBufferLoop, h, if_false]

/-- R175 for PROCESS_BUFFER. -/
theorem processBuffer_append (ck : Checksum) (xs ys : List Byte) (s : State) :
    ((processBuffer ck xs s).status = .incomplete →
      processBuffer ck (xs ++ ys) s = (processBuffer ck ys (processBuffer ck xs s).state).shift xs.length) ∧
    ((processBuffer ck xs s).status ≠ .incomplete → processBuffer ck (xs ++ ys) s = processBuffer ck xs s) := by
  induction xs generalizing s with
  | nil =>
    refine ⟨fun _ => ?_, fun h => absurd rfl h⟩
    simp [processBuffer_nil, BufferRun.shift]
  | cons b rest ih =>
    by_cases h : (offer ck b s).2.status = .incomplete
    · obtain ⟨htook, hstopped⟩ := ih (offer ck b s).1
      rw [List.cons_append, processBuffer_cons_of_incomplete _ h, processBuffer_cons_of_incomplete _ h]
      refine ⟨fun hst => ?_, fun hst => congrArg (·.shift 1) (hstopped hst)⟩
      rw [htook hst]
      simp only [BufferRun.shift, List.length_cons, BufferRun.mk.injEq, true_and]
      omega
    · rw [List.cons_append, processBuffer_cons_of_ne _ h, processBuffer_cons_of_ne _ h]
      exact ⟨fun hst => absurd hst h, fun _ => rfl⟩

/-! ### PROCESS_INPUT as a recursion over its input (R251) -/

/-- The same run, `i` bytes further in the input. -/
def InputRun.shift (r : InputRun) (i : Nat) : InputRun := { r with consumed := i + r.consumed }

/-- What becomes of one byte of PROCESS_INPUT: the call ends with it, or it is taken. -/
inductive ByteFate where
  | ends (r : InputRun)
  | taken (s : State) (errCount : Nat)

/-- The state PROCESS_INPUT goes on with after one FEED: CLR_HOLD follows a framing error where AUTO is 0. -/
def offerInput (ck : Checksum) (b : Byte) (s : State) : State :=
  if (offer ck b s).2.status.isFraming then clearHoldIfManual (offer ck b s).1 else (offer ck b s).1

/-- The host's error counter after one FEED. -/
def countErrors (ck : Checksum) (b : Byte) (s : State) (n : Nat) : Nat :=
  if (offer ck b s).2.status.isFraming then n + 1 else n

/-- One byte of PROCESS_INPUT: a byte that is refused is offered once more, and then taken (R166). -/
def settleByte (ck : Checksum) (b : Byte) (n : Nat) (s : State) : ByteFate :=
  if (offer ck b s).2.status = .ok then
    .ends ⟨offerInput ck b s, true, if (offer ck b s).2.acc then 1 else 0, countErrors ck b s n⟩
  else if (offer ck b s).2.status = .held then .ends ⟨offerInput ck b s, false, 0, countErrors ck b s n⟩
  else if (offer ck b s).2.acc then .taken (offerInput ck b s) (countErrors ck b s n)
  else .taken (offer ck b (offerInput ck b s)).1 (countErrors ck b s n)

/-- PROCESS_INPUT without its bound of FEEDs. -/
def settleInput (ck : Checksum) : List Byte → Nat → State → InputRun
  | [], n, s => ⟨s, false, 0, n⟩
  | b :: rest, n, s =>
    match settleByte ck b n s with
    | .ends r => r
    | .taken s' n' => (settleInput ck rest n' s').shift 1

/-- One round of the loop of PROCESS_INPUT. -/
theorem processInputLoop_cons (ck : Checksum) (fuel : Nat) (b : Byte) (rest : List Byte) (i n : Nat) (s : State) :
    processInputLoop ck (fuel + 1) (b :: rest) i n s =
      if (offer ck b s).2.status = .ok then
        ⟨offerInput ck b s, true, if (offer ck b s).2.acc then i + 1 else i, countErrors ck b s n⟩
      else if (offer ck b s).2.status = .held then
        ⟨offerInput ck b s, false, if (offer ck b s).2.acc then i + 1 else i, countErrors ck b s n⟩
      else processInputLoop ck fuel (advance (offer ck b s).2.acc b rest)
        (if (offer ck b s).2.acc then i + 1 else i) (countErrors ck b s n) (offerInput ck b s) := by
  rw [processInputLoop, offerInput, countErrors]
  generalize offer ck b s = o
  obtain ⟨s₁, r⟩ := o
  cases h : r.status.isFraming <;> simp [h]

/-- A byte that was refused is taken by the next round. -/
theorem processInputLoop_cons_of_hunting (ck : Checksum) (fuel : Nat) (b : Byte) (rest : List Byte) (i n : Nat)
    {s : State} (hidle : s.feedHeld = false) (hl : s.len = 0) :
    processInputLoop ck (fuel + 1) (b :: rest) i n s = processInputLoop ck fuel rest (i + 1) n (offer ck b s).1 := by
  rw [processInputLoop_cons, offerInput, countErrors, offer_of_hunting ck b hidle hl]
  rfl

/-- Two FEEDs for each byte are enough, so the fuel of PROCESS_INPUT is never the reason it stops. -/
theorem processInputLoop_eq_settleInput (ck : Checksum) {fuel : Nat} {xs : List Byte} (hfuel : 2 * xs.length ≤ fuel)
    (i n : Nat) (s : State) : processInputLoop ck fuel xs i n s = (settleInput ck xs n s).shift i := by
  induction xs generalizing fuel i n s with
  | nil => cases fuel <;> rfl
  | cons b rest ih =>
    obtain ⟨f, rfl⟩ : ∃ f, fuel = f + 2 := ⟨fuel - 2, by simp only [List.length_cons] at hfuel; omega⟩
    have hf : 2 * rest.length ≤ f := by simp only [List.length_cons] at hfuel; omega
    have hshift (r : InputRun) : r.shift (i + 1) = (r.shift 1).shift i := by
      simp only [InputRun.shift, InputRun.mk.injEq, true_and, and_true]
      omega
    obtain ⟨-, hrefused, hheld⟩ := offer_acc ck b s
    rw [processInputLoop_cons, settleInput, settleByte]
    by_cases hok : (offer ck b s).2.status = .ok
    · simp only [hok, if_true, InputRun.shift]
      split <;> rfl
    by_cases hh : (offer ck b s).2.status = .held
    · simp [hh, hheld hh, InputRun.shift]
    cases hacc : (offer ck b s).2.acc with
    | true =>
      simp only [hok, hh, if_true, if_false, advance]
      rw [ih (by omega), hshift]
    | false =>
      have hst := (hrefused hacc).resolve_left hh
      obtain ⟨hidle, hl⟩ := hunting_of_framing hst
      have hnext : offerInput ck b s = clearHoldIfManual (offer ck b s).1 := if_pos hst
      simp only [hok, hh, if_false, advance, Bool.false_eq_true]
      rw [hnext, processInputLoop_cons_of_hunting ck f b rest i _ hidle hl, ih hf, hshift]

theorem processInput_eq_settleInput (ck : Checksum) (xs : List Byte) (n : Nat) (s : State) :
    processInput ck xs n s = settleInput ck xs n s := by
  rw [processInput, processInputLoop_eq_settleInput ck (Nat.le_refl _)]
  simp [InputRun.shift]

/-- A byte that ends a call completes a packet or is not consumed. -/
theorem settleByte_ends {ck : Checksum} {b : Byte} {n : Nat} {s : State} {r : InputRun}
    (h : settleByte ck b n s = .ends r) : r.completed = true ∨ r.consumed = 0 := by
  unfold settleByte at h
  split at h
  · obtain rfl := ByteFate.ends.inj h
    exact .inl rfl
  split at h
  · obtain rfl := ByteFate.ends.inj h
    exact .inr rfl
  split at h <;> nomatch h

/-- R175 for PROCESS_INPUT: a call stops inside its input, or it takes all of it and goes on with the next. -/
theorem settleInput_append (ck : Checksum) (xs ys : List Byte) (n : Nat) (s : State) :
    ((settleInput ck xs n s).completed = true ∨ (settleInput ck xs n s).consumed < xs.length) ∧
      settleInput ck (xs ++ ys) n s = settleInput ck xs n s ∨
    (settleInput ck xs n s).completed = false ∧ (settleInput ck xs n s).consumed = xs.length ∧
      settleInput ck (xs ++ ys) n s =
        (settleInput ck ys (settleInput ck xs n s).errCount (settleInput ck xs n s).state).shift xs.length := by
  induction xs generalizing n s with
  | nil => exact .inr ⟨rfl, rfl, by simp [settleInput, InputRun.shift]⟩
  | cons b rest ih =>
    rw [List.cons_append, settleInput, settleInput]
    cases h : settleByte ck b n s with
    | ends r =>
      refine .inl ⟨(settleByte_ends h).imp_right fun h0 => ?_, rfl⟩
      exact h0.trans_lt (Nat.succ_pos _)
    | taken s' n' =>
      dsimp only
      rcases ih n' s' with ⟨hstop, heq⟩ | ⟨hc, hlen, heq⟩
      · refine .inl ⟨hstop.imp_right fun hlt => ?_, congrArg (·.shift 1) heq⟩
        simp only [InputRun.shift, List.length_cons]
        omega
      · refine .inr ⟨hc, ?_, ?_⟩
        · simp only [InputRun.shift, List.length_cons, hlen]
          omega
        · rw [heq]
          simp only [InputRun.shift, List.length_cons, InputRun.mk.injEq, true_and, and_true]
          omega

end Sys2Proof.Machine

/-! ### The statement -/

namespace Sys2Proof.Proofs
open Sys2Proof Sys2Proof.Machine

/-- Settles O59: both procedures are recursions over their input. -/
theorem splitReadsAgree : Obligations.SplitReadsAgree := by
  refine fun ck xs ys s => ⟨processBuffer_append ck xs ys s, fun n => ?_⟩
  simp only [processInput_eq_settleInput]
  rcases settleInput_append ck xs ys n s with ⟨hstop, heq⟩ | ⟨hc, hlen, heq⟩
  · refine ⟨fun hc hlen => ?_, fun _ => heq⟩
    rcases hstop with hdone | hlt
    · exact absurd (hc.symm.trans hdone) Bool.false_ne_true
    · exact absurd hlen hlt.ne
  · refine ⟨fun _ _ => heq, fun hstop => ?_⟩
    rcases hstop with hdone | hlt
    · exact absurd (hc.symm.trans hdone) Bool.false_ne_true
    · exact absurd hlen hlt.ne

end Sys2Proof.Proofs
end

section
/-! PROOFS. A packet image that FEED accepts (spec/44_control.md R250; spec/42_command_packet.md R161 to R165, R174;
spec/43_telemetry_packet.md R200 to R205, R212): fed to an instance that hunts, each of its bytes belongs at its
position and the last one completes it; and what SEND emits is such an image. -/

namespace Sys2Proof.Machine

/-! ### A packet image and the part of it that is in BUF -/

/-- The bytes of a whole packet of an instance with configuration `c` and checksum function `ck`. -/
structure PacketImage (ck : Checksum) (c : Config) (x : List Byte) : Prop where
  sync0 : x.getD 0 0 = 0x9A
  sync1 : x.getD 1 0 = 0xC3
  command : c.kind = .cmd → (x.getD 3 0).toNat < c.cmdMaxPayload ∧ x.length = 8 + (x.getD 3 0).toNat
  telemetry : c.kind = .tlm → ∃ e, c.schemaAt (x.getD 2 0) = some e ∧
    e.lenOK (le16 (x.getD 4 0) (x.getD 5 0)).toNat = true ∧ x.length = 16 + (le16 (x.getD 4 0) (x.getD 5 0)).toNat
  checksum : ckz ck x = le16 (x.getD 6 0) (x.getD 7 0)

/-- BUF holds the first `k` bytes of `x`, on an instance with configuration `c`. -/
structure HoldsPrefix (c : Config) (x : List Byte) (k : Nat) (s : State) : Prop where
  cfg : s.cfg = c
  len : s.len.toNat = k
  bytes : ∀ j < k, s.readBuf j = x.getD j 0

/-- One byte more of `x` is appended. -/
theorem HoldsPrefix.append {c : Config} {x : List Byte} {k : Nat} {s : State} (h : HoldsPrefix c x k s)
    (hv : c.valid = true) (hcap : k < c.capacity) : HoldsPrefix c x (k + 1) (s.append (x.getD k 0)) := by
  obtain ⟨rfl, rfl, hbytes⟩ := h
  refine ⟨rfl, toNat_len_add (k := 1) hv hcap, fun j hj => ?_⟩
  by_cases hlast : j = s.len.toNat
  · rw [hlast, State.readBuf_append_len _ hcap]
  · rw [State.readBuf_append_of_ne _ hlast, hbytes j (by omega)]

/-- All of `x` is the packet image in BUF. -/
theorem HoldsPrefix.bufPrefix_eq {c : Config} {x : List Byte} {s : State} (h : HoldsPrefix c x x.length s) :
    s.bufPrefix x.length = x := by
  apply List.ext_getElem
  · simp
  · intro j h1 h2
    rw [State.getElem_bufPrefix, h.bytes j h2, List.getD_eq_getElem x 0 h2]

section
variable {ck : Checksum} {c : Config} {x : List Byte} (hx : PacketImage ck c x)
include hx

theorem PacketImage.eight_le_length : 8 ≤ x.length := by
  cases hk : c.kind with
  | cmd =>
    obtain ⟨-, hlen⟩ := hx.command hk
    omega
  | tlm =>
    obtain ⟨e, -, -, hlen⟩ := hx.telemetry hk
    omega

/-- A packet image fits BUF (R6). -/
theorem PacketImage.length_le_capacity (hv : c.valid = true) : x.length ≤ c.capacity := by
  cases hk : c.kind with
  | cmd =>
    obtain ⟨hmax, hlen⟩ := hx.command hk
    rw [Config.capacity_cmd hk]
    omega
  | tlm =>
    obtain ⟨e, he, hok, hlen⟩ := hx.telemetry hk
    have hle := SchemaEntry.le_of_lenOK hok
    have hmax := Config.schemaAt_len_le hv he
    rw [Config.capacity_tlm hk]
    omega

variable {k : Nat} {s : State} (hs : HoldsPrefix c x k s)
include hs

/-- Each byte of a packet image belongs at its position. -/
theorem PacketImage.accepts : s.Accepts (x.getD k 0) := by
  obtain ⟨rfl, hlen, hbytes⟩ := hs
  refine ⟨fun h => ?_, fun h => ?_, fun hk h => ?_, fun hk h => ?_, fun hk h => ?_⟩ <;>
    obtain rfl : k = _ := hlen.symm.trans h
  · exact hx.sync0
  · exact hx.sync1
  · exact (hx.command hk).1
  · obtain ⟨e, he, -⟩ := hx.telemetry hk
    rw [he]
    rfl
  · obtain ⟨e, he, hok, -⟩ := hx.telemetry hk
    rw [State.schemaEntry, hbytes 2 (by decide), hbytes 4 (by decide)]
    exact ⟨e, he, hok⟩

/-- Once the length field is in BUF, the extent is the length of the image. -/
theorem PacketImage.extent_eq (hend : c.lengthEnd ≤ k) : s.extent = x.length := by
  obtain ⟨rfl, -, hbytes⟩ := hs
  cases hk : s.cfg.kind with
  | cmd =>
    rw [Config.lengthEnd_cmd hk] at hend
    rw [State.extent_cmd hk, hbytes 3 (by omega), (hx.command hk).2]
  | tlm =>
    rw [Config.lengthEnd_tlm hk] at hend
    obtain ⟨e, -, -, hlen⟩ := hx.telemetry hk
    rw [State.extent_tlm hk, State.readBufWord, hbytes 4 (by omega), hbytes (4 + 1) (by omega), hlen]

/-- The packet in BUF is complete where it is all of the image. -/
theorem PacketImage.complete_iff : s.len.toNat = s.extent ↔ k = x.length := by
  by_cases hend : c.lengthEnd ≤ k
  · rw [hx.extent_eq hs hend, hs.len]
  · have h6 := c.lengthEnd_le
    have hext := s.eight_le_extent
    have hlen := hx.eight_le_length
    have hk := hs.len
    omega

end

/-- The image in BUF has a right checksum. -/
theorem PacketImage.imageChecksum_eq {ck : Checksum} {c : Config} {x : List Byte} {s : State}
    (hx : PacketImage ck c x) (hs : HoldsPrefix c x x.length s) : s.imageChecksum ck = s.storedChecksum := by
  have h8 := hx.eight_le_length
  rw [State.imageChecksum, hs.len, hs.bufPrefix_eq, hx.checksum, State.storedChecksum, State.readBufWord,
    hs.bytes 6 (by omega), hs.bytes (6 + 1) (by omega)]

/-! ### FEED over a packet image -/

section
variable {ck : Checksum} {c : Config} {x : List Byte} (hx : PacketImage ck c x) (hv : c.valid = true)
  {k : Nat} {s : State} (hs : HoldsPrefix c x k s) (hidle : s.feedHeld = false)
include hx hv hs hidle

/-- A byte before the last is INCOMPLETE. -/
theorem PacketImage.offer_next (hk : k + 1 < x.length) :
    (offer ck (x.getD k 0) s).2 = ⟨.incomplete, true, 0⟩ ∧
      HoldsPrefix c x (k + 1) (offer ck (x.getD k 0) s).1 ∧ (offer ck (x.getD k 0) s).1.feedHeld = false := by
  have hcap := hx.length_le_capacity hv
  have hnext := hs.append hv (by omega)
  have hne : (s.append (x.getD k 0)).len.toNat ≠ (s.append (x.getD k 0)).extent := fun h =>
    hk.ne ((hx.complete_iff hnext).1 h)
  rw [offer, feed_step ck _ hidle, fsmStep_of_accepts ck (hx.accepts hs), bodyStep_of_ne ck hne,
    State.afterStep_incomplete]
  exact ⟨rfl, ⟨hnext.cfg, hnext.len, hnext.bytes⟩, hidle⟩

/-- The last byte completes the packet. -/
theorem PacketImage.offer_last (hk : k + 1 = x.length) :
    (offer ck (x.getD k 0) s).2 = ⟨.ok, true, 0⟩ ∧ (offer ck (x.getD k 0) s).1.completed = true ∧
      (offer ck (x.getD k 0) s).1.bufPrefix x.length = x := by
  have hcap := hx.length_le_capacity hv
  have hnext := hs.append hv (by omega)
  rw [hk] at hnext
  rw [offer, feed_step ck _ hidle, fsmStep_of_accepts ck (hx.accepts hs),
    bodyStep_of_valid ((hx.complete_iff hnext).2 rfl) (hx.imageChecksum_eq hnext), State.afterStep_ok]
  exact ⟨rfl, rfl, hnext.bufPrefix_eq⟩

end

theorem drop_eq_getD_cons {x : List Byte} {k : Nat} (h : k < x.length) : x.drop k = x.getD k 0 :: x.drop (k + 1) := by
  rw [List.drop_eq_getElem_cons h, List.getD_eq_getElem x 0 h]

/-- The rest of a packet image, fed to an instance that has received the part before it, completes the packet. -/
theorem PacketImage.processBuffer_drop {ck : Checksum} {c : Config} {x : List Byte} (hx : PacketImage ck c x)
    (hv : c.valid = true) (d : Nat) {k : Nat} {s : State} (hk : k + (d + 1) = x.length) (hs : HoldsPrefix c x k s)
    (hidle : s.feedHeld = false) :
    (processBuffer ck (x.drop k) s).status = .ok ∧ (processBuffer ck (x.drop k) s).consumed = d + 1 ∧
      (processBuffer ck (x.drop k) s).state.completed = true ∧
      (processBuffer ck (x.drop k) s).state.bufPrefix x.length = x := by
  induction d generalizing k s with
  | zero =>
    obtain ⟨hr, hdone, hbuf⟩ := hx.offer_last hv hs hidle (by omega)
    rw [drop_eq_getD_cons (by omega), processBuffer_cons_of_ne _ (by rw [hr]; decide), hr]
    exact ⟨rfl, rfl, hdone, hbuf⟩
  | succ d ih =>
    obtain ⟨hr, hs', hidle'⟩ := hx.offer_next hv hs hidle (by omega)
    obtain ⟨hst, hcons, hdone, hbuf⟩ := ih (by omega) hs' hidle'
    rw [drop_eq_getD_cons (by omega), processBuffer_cons_of_incomplete _ (by rw [hr])]
    refine ⟨hst, ?_, hdone, hbuf⟩
    simp only [BufferRun.shift, hcons]
    omega

/-! ### What SEND emits -/

/-- The packet that FINALIZE leaves is a packet image, if its sync word is intact and it is no longer than the
configuration allows. -/
theorem packetImage_sealed {ck : Checksum} {s s' : State} (hl : finalizeLength s = .ok s') (hv : s.cfg.valid = true)
    (hmin : s.cfg.headerSize ≤ s.len.toNat) (hmax : s.len.toNat ≤ s.cfg.capacity) (h0 : s.readBuf 0 = 0x9A)
    (h1 : s.readBuf 1 = 0xC3) (hcmd : s.cfg.kind = .cmd → s.len.toNat - 8 < s.cfg.cmdMaxPayload) :
    PacketImage ck s.cfg ((s'.sealChecksum ck).bufPrefix s.len.toNat) := by
  obtain ⟨hcfg, hlen, -, -⟩ := finalizeLength_fields hl
  have h8 := s.cfg.eight_le_headerSize
  have hread {k : Nat} (hk : k < s.len.toNat) (h6 : k ≠ 6) (h7 : k ≠ 7) :
      ((s'.sealChecksum ck).bufPrefix s.len.toNat).getD k 0 = s'.readBuf k := by
    rw [State.getD_bufPrefix hk, State.readBuf_sealChecksum, if_neg h7, if_neg h6]
  have hbytes := readBuf_finalizeLength hl
  obtain ⟨-, hM, hT, -⟩ := (Config.valid_iff s.cfg).1 hv
  refine ⟨?_, ?_, fun hk => ?_, fun hk => ?_, ?_⟩
  · rw [hread (by omega) (by decide) (by decide), hbytes]
    cases s.cfg.kind <;> exact h0
  · rw [hread (by omega) (by decide) (by decide), hbytes]
    cases s.cfg.kind <;> exact h1
  · have hpay := hcmd hk
    have hlenByte : (s'.readBuf 3).toNat = s.len.toNat - 8 := by
      simp only [hbytes, hk, if_true]
      rw [BitVec.toNat_ofNat, State.payloadLen_cmd hk, Nat.mod_eq_of_lt (by omega)]
    rw [hread (by omega) (by decide) (by decide), State.length_bufPrefix, hlenByte]
    omega
  · obtain ⟨hk', -⟩ | ⟨-, ⟨e, he, hok⟩, -⟩ := finalizeLength_ok_iff.1 hl
    · nomatch hk.symm.trans hk'
    rw [Config.headerSize_tlm hk] at hmin
    rw [Config.capacity_tlm hk] at hmax
    rw [State.payloadLen_tlm hk] at hok
    have htype : s'.readBuf 2 = s.readBuf 2 := by simp [hbytes, hk]
    have hlenWord : (le16 (s'.readBuf 4) (s'.readBuf 5)).toNat = s.len.toNat - 16 := by
      simp only [hbytes, hk, if_true]
      rw [if_neg (by decide), le16_lo16_hi16, BitVec.toNat_ofNat, State.payloadLen_tlm hk, Nat.mod_eq_of_lt (by omega)]
    rw [hread (by omega) (by decide) (by decide), hread (by omega) (by decide) (by decide),
      hread (by omega) (by decide) (by decide), State.length_bufPrefix, hlenWord, htype]
    exact ⟨e, he, hok, by omega⟩
  · have hck : (s'.sealChecksum ck).imageChecksum ck = (s'.sealChecksum ck).storedChecksum := by
      rw [State.imageChecksum_sealChecksum, State.storedChecksum_sealChecksum]
    rw [State.imageChecksum, State.sealChecksum_len, hlen] at hck
    rw [hck, State.storedChecksum_eq_getD _ (h8.trans hmin)]

end Sys2Proof.Machine

/-! ### The statement -/

namespace Sys2Proof.Proofs
open Sys2Proof Sys2Proof.Machine

/-- Settles O60: SEND emits a packet image, and a hunting instance holds no byte of it yet. -/
theorem emittedPacketsAreAccepted : Obligations.EmittedPacketsAreAccepted := by
  intro ck s t r d hv hmin hmax h0 h1 hcmd hsend hcfg ht hc hh hl
  rcases send_cases ck s with ⟨-, hr⟩ | ⟨-, st, herr, hr⟩ | ⟨-, s', hok, hr⟩
  · nomatch hr.symm.trans hsend
  · exact absurd (congrArg (·.2.status) (hr.symm.trans hsend)) (ne_ok_of_finalizeLength_error herr)
  obtain ⟨rfl, -⟩ := Prod.mk.inj (hr.symm.trans hsend)
  obtain ⟨-, hlen, -, htxout⟩ := finalizeLength_fields hok
  have hx : PacketImage ck s.cfg ((s'.sealChecksum ck).bufPrefix s.len.toNat) :=
    packetImage_sealed hok hv hmin hmax h0 h1 hcmd
  have hlength : ((s'.sealChecksum ck).bufPrefix s.len.toNat).length = s.len.toNat := State.length_bufPrefix _ _
  have hstart (x : List Byte) : HoldsPrefix s.cfg x 0 r :=
    ⟨hcfg, congrArg BitVec.toNat hl, fun _ h => absurd h (Nat.not_lt_zero _)⟩
  obtain ⟨n, hn⟩ : ∃ n, s.len.toNat = n + 1 :=
    ⟨s.len.toNat - 1, by have := s.cfg.eight_le_headerSize; omega⟩
  obtain ⟨hst, hcons, hdone, hbuf⟩ := hx.processBuffer_drop hv n (by rw [hlength]; omega) (hstart _)
    (r.feedHeld_eq_false_iff.2 ⟨ht, hc, hh⟩)
  refine ⟨_, ?_, hlength, hst, ?_, hdone, hbuf⟩
  · exact congrArg₂ (· ++ ·) htxout (congrArg _ (congrArg BitVec.toNat hlen))
  · exact hcons.trans (hn.symm.trans hlength.symm)

end Sys2Proof.Proofs
end
